-- ==== Sys2Proof/Word.lean ====
section
/-! DEFINITION. The word types of the block: every width below is one that a rule of spec/ gives. -/

namespace Sys2Proof

/-- A data word of the host bus (R5 `BUS_WIDTH`, R62). -/
abbrev Word := BitVec 32

/-- A byte offset in the register space (R5 `ADDR_BITS`, R60). -/
abbrev Offset := BitVec 8

/-- The transaction word T of R80: `we` (bit 40), `addr` (bits 39:32), `wdata` (bits 31:0). -/
abbrev BusWord := BitVec 41

/-- A duty register, a resolution or a prescaler ratio: 17 bits, so that 65536 fits (R20). -/
abbrev DutyWord := BitVec 17

/-- A channel number n: 0 is Ch1, 1 is Ch2 (R5 `NUM_CH`, R20). -/
abbrev Chan := Fin 2

/-- A cursor number k (R5 `NUM_CUR`). -/
abbrev CurNum := Fin 2

/-- An index of the step table (R5 `STEP_DEPTH` = 16). -/
abbrev StepIdx := Fin 16

/-- A set of channels or of cursors: bit j is member j (R82, R85, R36). -/
abbrev Set2 := BitVec 2

/-- A one-bit number (a channel or cursor number) as the bit it is in a word. -/
abbrev numBit (n : Fin 2) : BitVec 1 := BitVec.ofNat 1 n.val

end Sys2Proof
end

