-- ==== Sys2Proof/Config.lean ====
section
/-! DEFINITION. The fixed parameters of 00_scope.md R5, and the free values of the model (log 7): constants without a
body, so that no proof can use what they are. -/

namespace Sys2Proof

/-- `CARRIER_HZ`: the only carrier frequency the block makes (R5). -/
def Config.carrierHz : Nat := 50

/-- `FRAC_ONE` = 2^FRAC_BITS: the encoding of fraction 1.0 (R5). -/
def Config.fracOne : Nat := 65536

/-- `STEP_DEPTH`: entries of the step table (R5). -/
def Config.stepDepth : Nat := 16

/-- `PSC_BITS`: the prescaler divides by 1 to 2^16 (R5). -/
def Config.pscMax : Nat := 65536

/-- `CNT_BITS`: `max_duty` lies in 1 to 2^16 (R5). -/
def Config.dutyMax : Nat := 65536

/-- Free value: the fraction word a cursor would read at a table index above 15. The spec rules the index out
(R114, R163), so no run reads it (log 7). -/
opaque Config.fracBeyondTable : Nat → Word

/-- Free value: the hold word a cursor would read at a table index above 15 (log 7). -/
opaque Config.holdBeyondTable : Nat → Word

/-- Free value: `(idx + 1) mod 0`, the advance of a cursor with an empty Sequence. The spec rules it out (R136 cause 4,
R40 item 7), so no run computes it (log 7). -/
opaque Config.advanceInEmpty : BitVec 8 → Nat

end Sys2Proof
end

