-- ==== Sys2Proof/Syntax.lean ====
section
/-! DEFINITION. The registers of the map R81 and the instructions of R86: 24 host operations and 3 events
(00_scope.md R2, R6: an "instruction" of this block is one host operation or one event). -/

namespace Sys2Proof

/-- The registers of the register map (30_encoding.md R81). -/
inductive Reg where
  | config | maxDuty | status | fault | faultInfo | warn | pscDiv | seqStart
  | chEn (n : Chan) | chDuty (n : Chan) | chDutyFrac (n : Chan)
  | curSeq (k : CurNum) | curPos (k : CurNum) | curHold (k : CurNum)
  | stepFrac (i : StepIdx) | stepHold (i : StepIdx)
deriving DecidableEq, Repr

/-- One constructor per row of spec/opcode_table.json, in the table's order, with the operands of the row's rule.
Reserved bits and the data word of a read are ignored by the block (R89, R80) and are no operand. -/
inductive Instr where
  /-- CONFIGURE hz, req (R100). -/
  | configure (hz : BitVec 16) (req : Set2)
  /-- RD_CONFIG (R115). -/
  | rdConfig
  /-- RESOLUTION (R105). -/
  | resolution
  /-- RD_STATUS (R116). -/
  | rdStatus
  /-- RD_FAULT (R117). -/
  | rdFault
  /-- RD_FAULT_INFO (R118). -/
  | rdFaultInfo
  /-- RD_WARN (R119). -/
  | rdWarn
  /-- RD_PSC_DIV (R120). -/
  | rdPscDiv
  /-- SEQ_START sel (R135). -/
  | seqStart (sel : Set2)
  /-- RD_SEQ_START (R138). -/
  | rdSeqStart
  /-- ENABLE n (R106). -/
  | enable (n : Chan)
  /-- DISABLE n (R107). -/
  | disable (n : Chan)
  /-- RD_EN n (R112). -/
  | rdEn (n : Chan)
  /-- SET_DUTY n, value: all 32 bits, read as two's complement (R108, R84). -/
  | setDuty (n : Chan) (value : Word)
  /-- RD_DUTY n (R109). -/
  | rdDuty (n : Chan)
  /-- SET_DUTY_FRAC n, f: an encoded fraction, f / 65536 (R111, R84). -/
  | setDutyFrac (n : Chan) (f : Word)
  /-- WR_CURSOR k, base, len, start, chm (R133). -/
  | wrCursor (k : CurNum) (base len start : BitVec 8) (chm : Set2)
  /-- RD_CURSOR k (R134). -/
  | rdCursor (k : CurNum)
  /-- RD_POS k (R139). -/
  | rdPos (k : CurNum)
  /-- RD_HOLD k (R140). -/
  | rdHold (k : CurNum)
  /-- WR_STEP_FRAC i, f (R130). -/
  | wrStepFrac (i : StepIdx) (f : Word)
  /-- WR_STEP_HOLD i, h (R131). -/
  | wrStepHold (i : StepIdx) (h : Word)
  /-- RD_STEP_FRAC i (R132). -/
  | rdStepFrac (i : StepIdx)
  /-- RD_STEP_HOLD i (R143). -/
  | rdStepHold (i : StepIdx)
  /-- TIM_TICK: a pulse on port `tim_tick` (R150). -/
  | timTick
  /-- MS_TICK: a pulse on port `ms_tick` (R156). -/
  | msTick
  /-- RESET: `rst` asserted (R164). -/
  | reset
deriving DecidableEq, Repr

end Sys2Proof
end

