-- ==== Sys2Proof/WellFormed.lean ====
section
/-! DEFINITION. Which instructions are well formed: the operands' widths are carried by their types, so the only
ill-formed instructions are the calls that the spec calls malformed (R82, R85; 60_exceptions.md R175 items 6 and 8).
They can be encoded, they decode, and the block refuses them (log 13). -/

namespace Sys2Proof

/-- R82: `hz` = 0 is malformed, and so is an empty channel set; R85: an empty cursor set is malformed. -/
def Instr.wellFormed : Instr → Bool
  | .configure hz req => hz != 0 && req != 0
  | .seqStart sel => sel != 0
  | .rdConfig | .resolution | .rdStatus | .rdFault | .rdFaultInfo | .rdWarn | .rdPscDiv | .rdSeqStart => true
  | .enable _ | .disable _ | .rdEn _ | .setDuty _ _ | .rdDuty _ | .setDutyFrac _ _ => true
  | .wrCursor _ _ _ _ _ | .rdCursor _ | .rdPos _ | .rdHold _ => true
  | .wrStepFrac _ _ | .wrStepHold _ _ | .rdStepFrac _ | .rdStepHold _ => true
  | .timTick | .msTick | .reset => true

end Sys2Proof
end

