-- ==== Sys2Proof/Decode.lean ====
section
/-! DEFINITION. Decoding of the 41-bit transaction word (30_encoding.md R80, R81, R86 to R90), total on all 2^41 words
and rejecting by name, and the encoder written from the same tables. Decoding never depends on state (R90). -/

namespace Sys2Proof

/-- Why a transaction word selects no row of R86 (R88, R175 items 1 to 4). The block's answer is `refuse` in every case. -/
inductive Reject where
  /-- `addr[1:0] ≠ 0` (R63, R175 item 1). -/
  | misaligned
  /-- an unmapped offset (R66, R175 item 2). -/
  | unmapped
  /-- a write to a read-only register (R175 item 3). -/
  | readOnly
  /-- a read of a write-only register (R175 item 4). -/
  | writeOnly
deriving DecidableEq, Repr

/-! ## The fields of T (R80) -/

/-- T[40]: 1 = write. -/
def busWe (t : BusWord) : Bool := t.getLsbD 40

/-- T[39:32]. -/
def busAddr (t : BusWord) : Offset := t.extractLsb' 32 8

/-- T[31:0]. -/
def busData (t : BusWord) : Word := t.extractLsb' 0 32

/-- T = we ∥ addr ∥ wdata. -/
def busWord (we : Bool) (addr : Offset) (wdata : Word) : BusWord := BitVec.setWidth 41 (BitVec.ofBool we ++ addr ++ wdata)

/-- The one-bit number n or k: `addr[4]` (R80). -/
def addrNum (a : Offset) : Fin 2 := if a.getLsbD 4 then 1 else 0

/-- The step index i: `addr[6:3]` (R80). -/
def addrStep (a : Offset) : StepIdx := Fin.ofNat 16 (a.extractLsb' 3 4).toNat

/-! ## The register map (R81) -/

/-- The offset column of R81. -/
def Reg.offset : Reg → Offset
  | .config => 0x00 | .maxDuty => 0x04 | .status => 0x08 | .fault => 0x0C
  | .faultInfo => 0x10 | .warn => 0x14 | .pscDiv => 0x18 | .seqStart => 0x1C
  | .chEn n => BitVec.ofNat 8 (0x20 + 0x10 * n.val)
  | .chDuty n => BitVec.ofNat 8 (0x24 + 0x10 * n.val)
  | .chDutyFrac n => BitVec.ofNat 8 (0x28 + 0x10 * n.val)
  | .curSeq k => BitVec.ofNat 8 (0x40 + 0x10 * k.val)
  | .curPos k => BitVec.ofNat 8 (0x44 + 0x10 * k.val)
  | .curHold k => BitVec.ofNat 8 (0x48 + 0x10 * k.val)
  | .stepFrac i => BitVec.ofNat 8 (0x80 + 8 * i.val)
  | .stepHold i => BitVec.ofNat 8 (0x84 + 8 * i.val)

/-- Offsets 0x00 to 0x1C: the global registers (R65), by word number. -/
def globalReg : Nat → Reg
  | 0 => .config | 1 => .maxDuty | 2 => .status | 3 => .fault
  | 4 => .faultInfo | 5 => .warn | 6 => .pscDiv | _ => .seqStart

/-- Offsets 0x20 to 0x3C: the channel banks (R65), by word number in the bank. -/
def channelReg (n : Chan) : Nat → Except Reject Reg
  | 0 => .ok (.chEn n) | 1 => .ok (.chDuty n) | 2 => .ok (.chDutyFrac n) | _ => .error .unmapped

/-- Offsets 0x40 to 0x5C: the cursor banks (R65), by word number in the bank. -/
def cursorReg (k : CurNum) : Nat → Except Reject Reg
  | 0 => .ok (.curSeq k) | 1 => .ok (.curPos k) | 2 => .ok (.curHold k) | _ => .error .unmapped

/-- Offsets 0x80 to 0xFF: the step table, fraction word first (R65). -/
def stepReg (a : Offset) : Reg := if a.getLsbD 2 then .stepHold (addrStep a) else .stepFrac (addrStep a)

/-- R87 step 1 and the address half of step 2: the register at an offset, alignment tested first (R177 (a)). -/
def regAt (a : Offset) : Except Reject Reg :=
  if a.extractLsb' 0 2 ≠ 0 then .error .misaligned
  else
    match (a.extractLsb' 5 3).toNat with
    | 0 => .ok (globalReg (a.extractLsb' 2 3).toNat)
    | 1 => channelReg (addrNum a) (a.extractLsb' 2 2).toNat
    | 2 => cursorReg (addrNum a) (a.extractLsb' 2 2).toNat
    | 3 => .error .unmapped
    | _ => .ok (stepReg a)

/-! ## The operations (R81's columns "write operation" and "read operation") -/

/-- A write of `d` to a register: R82 to R85 give the fields. -/
def writeOp (r : Reg) (d : Word) : Except Reject Instr :=
  match r with
  | .config => .ok (.configure (d.extractLsb' 0 16) (d.extractLsb' 16 2))
  | .seqStart => .ok (.seqStart (d.extractLsb' 0 2))
  | .chEn n => .ok (if d.getLsbD 0 then .enable n else .disable n)
  | .chDuty n => .ok (.setDuty n d)
  | .chDutyFrac n => .ok (.setDutyFrac n d)
  | .curSeq k => .ok (.wrCursor k (d.extractLsb' 0 8) (d.extractLsb' 8 8) (d.extractLsb' 16 8) (d.extractLsb' 24 2))
  | .stepFrac i => .ok (.wrStepFrac i d)
  | .stepHold i => .ok (.wrStepHold i d)
  | .maxDuty | .status | .fault | .faultInfo | .warn | .pscDiv | .curPos _ | .curHold _ => .error .readOnly

/-- A read of a register: the data word is ignored (R80). -/
def readOp (r : Reg) : Except Reject Instr :=
  match r with
  | .config => .ok .rdConfig
  | .maxDuty => .ok .resolution
  | .status => .ok .rdStatus
  | .fault => .ok .rdFault
  | .faultInfo => .ok .rdFaultInfo
  | .warn => .ok .rdWarn
  | .pscDiv => .ok .rdPscDiv
  | .seqStart => .ok .rdSeqStart
  | .chEn n => .ok (.rdEn n)
  | .chDuty n => .ok (.rdDuty n)
  | .chDutyFrac _ => .error .writeOnly
  | .curSeq k => .ok (.rdCursor k)
  | .curPos k => .ok (.rdPos k)
  | .curHold k => .ok (.rdHold k)
  | .stepFrac i => .ok (.rdStepFrac i)
  | .stepHold i => .ok (.rdStepHold i)

/-- R87 steps 1 and 2 on the three fields of a transaction (R61). -/
def decodeFields (we : Bool) (addr : Offset) (wdata : Word) : Except Reject Instr :=
  match regAt addr with
  | .error e => .error e
  | .ok r => if we then writeOp r wdata else readOp r

/-- R87 steps 1 and 2: the operation a transaction word selects, or why it selects none. -/
def decode (t : BusWord) : Except Reject Instr := decodeFields (busWe t) (busAddr t) (busData t)

/-! ## The encoder -/

/-- Data word of CONFIG (R82), reserved bits 0 (R89). -/
def configData (hz : BitVec 16) (req : Set2) : Word := BitVec.setWidth 32 (req ++ hz)

/-- Data word of SEQ_START (R85). -/
def seqStartData (sel : Set2) : Word := BitVec.setWidth 32 sel

/-- Data word of CURk_SEQ (R85). -/
def cursorData (base len start : BitVec 8) (chm : Set2) : Word := BitVec.setWidth 32 (chm ++ start ++ len ++ base)

/-- The transaction of a host operation: `we`, the register, the data word (0 on a read). `none` for the three events,
which have no encoding (opcode_table.json: "not a bus transaction"). -/
def Instr.transaction : Instr → Option (Bool × Reg × Word)
  | .configure hz req => some (true, .config, configData hz req)
  | .rdConfig => some (false, .config, 0)
  | .resolution => some (false, .maxDuty, 0)
  | .rdStatus => some (false, .status, 0)
  | .rdFault => some (false, .fault, 0)
  | .rdFaultInfo => some (false, .faultInfo, 0)
  | .rdWarn => some (false, .warn, 0)
  | .rdPscDiv => some (false, .pscDiv, 0)
  | .seqStart sel => some (true, .seqStart, seqStartData sel)
  | .rdSeqStart => some (false, .seqStart, 0)
  | .enable n => some (true, .chEn n, 1)
  | .disable n => some (true, .chEn n, 0)
  | .rdEn n => some (false, .chEn n, 0)
  | .setDuty n value => some (true, .chDuty n, value)
  | .rdDuty n => some (false, .chDuty n, 0)
  | .setDutyFrac n f => some (true, .chDutyFrac n, f)
  | .wrCursor k base len start chm => some (true, .curSeq k, cursorData base len start chm)
  | .rdCursor k => some (false, .curSeq k, 0)
  | .rdPos k => some (false, .curPos k, 0)
  | .rdHold k => some (false, .curHold k, 0)
  | .wrStepFrac i f => some (true, .stepFrac i, f)
  | .wrStepHold i h => some (true, .stepHold i, h)
  | .rdStepFrac i => some (false, .stepFrac i, 0)
  | .rdStepHold i => some (false, .stepHold i, 0)
  | .timTick => none
  | .msTick => none
  | .reset => none

/-- The transaction word of a host operation (R80, R91). -/
def encode (i : Instr) : Option BusWord :=
  match i.transaction with
  | some (we, r, d) => some (busWord we r.offset d)
  | none => none

/-! ## The operation table (R86), as the spec prints it -/

/-- A row of R86: a transaction word T selects it when `T &&& mask = pattern`. -/
structure OpRow where
  mnemonic : String
  pattern : BusWord
  mask : BusWord
deriving DecidableEq, Repr

def OpRow.selects (r : OpRow) (t : BusWord) : Bool := t &&& r.mask == r.pattern

/-- The rows of 40_driver_ops.md. -/
def driverRows : List OpRow := [
  ⟨"CONFIGURE", 0x10000000000, 0x1FF00000000⟩,
  ⟨"RD_CONFIG", 0x00000000000, 0x1FF00000000⟩,
  ⟨"RESOLUTION", 0x00400000000, 0x1FF00000000⟩,
  ⟨"RD_STATUS", 0x00800000000, 0x1FF00000000⟩,
  ⟨"RD_FAULT", 0x00C00000000, 0x1FF00000000⟩,
  ⟨"RD_FAULT_INFO", 0x01000000000, 0x1FF00000000⟩,
  ⟨"RD_WARN", 0x01400000000, 0x1FF00000000⟩,
  ⟨"RD_PSC_DIV", 0x01800000000, 0x1FF00000000⟩,
  ⟨"ENABLE", 0x12000000001, 0x1EF00000001⟩,
  ⟨"DISABLE", 0x12000000000, 0x1EF00000001⟩,
  ⟨"RD_EN", 0x02000000000, 0x1EF00000000⟩,
  ⟨"SET_DUTY", 0x12400000000, 0x1EF00000000⟩,
  ⟨"RD_DUTY", 0x02400000000, 0x1EF00000000⟩,
  ⟨"SET_DUTY_FRAC", 0x12800000000, 0x1EF00000000⟩]

/-- The rows of 41_sequencer_ops.md. -/
def sequencerRows : List OpRow := [
  ⟨"SEQ_START", 0x11C00000000, 0x1FF00000000⟩,
  ⟨"RD_SEQ_START", 0x01C00000000, 0x1FF00000000⟩,
  ⟨"WR_CURSOR", 0x14000000000, 0x1EF00000000⟩,
  ⟨"RD_CURSOR", 0x04000000000, 0x1EF00000000⟩,
  ⟨"RD_POS", 0x04400000000, 0x1EF00000000⟩,
  ⟨"RD_HOLD", 0x04800000000, 0x1EF00000000⟩,
  ⟨"WR_STEP_FRAC", 0x18000000000, 0x18700000000⟩,
  ⟨"WR_STEP_HOLD", 0x18400000000, 0x18700000000⟩,
  ⟨"RD_STEP_FRAC", 0x08000000000, 0x18700000000⟩,
  ⟨"RD_STEP_HOLD", 0x08400000000, 0x18700000000⟩]

def opRows : List OpRow := driverRows ++ sequencerRows

/-- The mnemonic of an instruction, as R86 spells it. -/
def Instr.mnemonic : Instr → String
  | .configure _ _ => "CONFIGURE"
  | .rdConfig => "RD_CONFIG"
  | .resolution => "RESOLUTION"
  | .rdStatus => "RD_STATUS"
  | .rdFault => "RD_FAULT"
  | .rdFaultInfo => "RD_FAULT_INFO"
  | .rdWarn => "RD_WARN"
  | .rdPscDiv => "RD_PSC_DIV"
  | .seqStart _ => "SEQ_START"
  | .rdSeqStart => "RD_SEQ_START"
  | .enable _ => "ENABLE"
  | .disable _ => "DISABLE"
  | .rdEn _ => "RD_EN"
  | .setDuty _ _ => "SET_DUTY"
  | .rdDuty _ => "RD_DUTY"
  | .setDutyFrac _ _ => "SET_DUTY_FRAC"
  | .wrCursor _ _ _ _ _ => "WR_CURSOR"
  | .rdCursor _ => "RD_CURSOR"
  | .rdPos _ => "RD_POS"
  | .rdHold _ => "RD_HOLD"
  | .wrStepFrac _ _ => "WR_STEP_FRAC"
  | .wrStepHold _ _ => "WR_STEP_HOLD"
  | .rdStepFrac _ => "RD_STEP_FRAC"
  | .rdStepHold _ => "RD_STEP_HOLD"
  | .timTick => "TIM_TICK"
  | .msTick => "MS_TICK"
  | .reset => "RESET"

/-- The host's view of the decoder: `w` holds an instruction of `nbits` bits, bit 0 the least significant bit of T; the
bits above `nbits` are 0. A number that does not fit in the 41 bits of T is no transaction word (R90). -/
def decodeTableWord (nbits w : Nat) : Option Instr :=
  let v := w % 2 ^ nbits
  if v < 2 ^ 41 then
    match decode (BitVec.ofNat 41 v) with
    | .ok i => some i
    | .error _ => none
  else none

end Sys2Proof
end

