-- ==== Sys2Proof/Machine/State.lean ====
section
/-! DEFINITION. The complete state of the block (10_state.md R20), its outputs' records, the environment's input ports
(R50), the reasons a step can stop, and the state after reset (R53, 70_reset_and_hazards.md R200). -/

namespace Sys2Proof.Machine

/-- `drv_state` (R21); the code 3 never occurs (log 11). -/
inductive DrvState where
  | unconfigured | configured | initFailed
deriving DecidableEq, Repr

/-- `seq_state` (R33). -/
inductive SeqState where
  | idle | running | fatal
deriving DecidableEq, Repr

/-- The direction of a saturation (R52, R174): below 0, or above `max_duty`. -/
inductive SatDir where
  | below | above
deriving DecidableEq, Repr

/-- The records of the event stream (R52). -/
inductive LogRec where
  /-- STEP(k, n, j, f, v): cursor k applied step offset j (fraction word f) to channel n, leaving duty v. -/
  | step (k : CurNum) (n : Chan) (j : BitVec 8) (f : Word) (v : DutyWord)
  /-- SAT(n, dir, v): a duty write to channel n was clamped to v. -/
  | sat (n : Chan) (dir : SatDir) (v : DutyWord)
deriving DecidableEq, Repr

/-- The fatal errors with the information each records (60_exceptions.md R171): k the cursor, i the table entry. -/
inductive FatalError where
  /-- HardwareInitError, code 1: `clk_valid` = 0 at CONFIGURE. -/
  | clkInvalid
  /-- HardwareInitError, code 2: a frequency other than 50 Hz. -/
  | freqUnsupported
  /-- HardwareInitError, code 3: no exact divider pair. -/
  | dividerUnachievable
  /-- InvalidStepError, code 4: `cur_len[k]` = 0. -/
  | seqEmpty (k : CurNum)
  /-- InvalidStepError, code 5: `cur_base[k] + cur_len[k]` > 16. -/
  | seqRange (k : CurNum)
  /-- InvalidStepError, code 6: `cur_start[k]` ≥ `cur_len[k]`. -/
  | startRange (k : CurNum)
  /-- InvalidStepError, code 7: `cur_chm[k]` empty or naming an unallocated channel. -/
  | channelSet (k : CurNum)
  /-- InvalidStepError, code 8: `step_frac[i]` > 65536. -/
  | fractionRange (k : CurNum) (i : Nat)
  /-- InvalidStepError, code 9: `step_hold[i]` = 0. -/
  | holdZero (k : CurNum) (i : Nat)
deriving DecidableEq, Repr

/-- The response of a BUS event (R61). -/
structure Resp where
  rdata : Word
  err : Bool
deriving DecidableEq, Repr

/-- The input ports in one bus-clock cycle (R50): the event lines, each cleared once its event has been taken (R8), and
the two levels that CONFIGURE reads. -/
structure Ports where
  /-- `rst`: the RESET event. -/
  rst : Bool
  /-- A bus request, as the transaction word T (R80). -/
  bus : Option BusWord
  /-- `ms_tick`: the MS_TICK event. -/
  msTick : Bool
  /-- `tim_tick`: the TIM_TICK event. -/
  timTick : Bool
  /-- `clk_valid`. -/
  clkValid : Bool
  /-- `timclk_hz`, in Hz. -/
  timclkHz : Word
deriving DecidableEq, Repr

/-- One departure of the open parameter `derive_dividers` from its default instance (R5, R102, R103; log 4): at clock
`timclkHz` and carrier `hz` the platform answers `pair` (a prescaler and a resolution), or `none` for no pair. -/
structure DividerEntry where
  timclkHz : Word
  hz : BitVec 16
  pair : Option (Nat × Nat)
deriving DecidableEq, Repr

/-- Why a step stops with a fault: no event of the block traps (60_exceptions.md R178, R187; 93_implementation_defined.md
"There is no `stuck` and no `fault` entry"), so there is no reason (log 5; safe). -/
inductive Fault : Type
deriving DecidableEq, Repr

/-- Why a step is refused by the MODEL (the block's own refusal R175 is a state change, not one of these; log 5). -/
inductive Refusal where
  /-- Raised by an arm of `exec` whose instruction has no meaning yet: no arm does. Safe: it proves nothing. -/
  | notModelled (mnemonic : String)
deriving DecidableEq, Repr

/-- The state of the block: one field per element of R20, in its order, then the outputs' history and the model's own
fields for the environment (INVENTORY.md lists the rule of each). -/
structure State where
  /-- `drv_state` (R21). -/
  drvState : DrvState
  /-- `carrier_hz` (R22). -/
  carrierHz : BitVec 16
  /-- `alloc[1:0]` (R22). -/
  alloc : Set2
  /-- `psc_div` (R23). -/
  pscDiv : DutyWord
  /-- `max_duty` (R24). -/
  maxDuty : DutyWord
  /-- `psc_cnt` (R25). -/
  pscCnt : BitVec 16
  /-- `cnt` (R26). -/
  cnt : BitVec 16
  /-- `enabled[n]` (R27). -/
  enabled : Vector Bool 2
  /-- `duty_value[n]` (R28). -/
  dutyValue : Vector DutyWord 2
  /-- `duty_active[n]` (R29). -/
  dutyActive : Vector DutyWord 2
  /-- `FAULT.hwinit` (R30). -/
  faultHwinit : Bool
  /-- `FAULT.invalid_step` (R30). -/
  faultInvalidStep : Bool
  /-- `FAULT.usage` (R30). -/
  faultUsage : Bool
  /-- `fault_cause` (R31). -/
  faultCause : BitVec 4
  /-- `fault_cur` (R31). -/
  faultCur : CurNum
  /-- `fault_step` (R31). -/
  faultStep : BitVec 8
  /-- `WARN.sat[n]` (R32). -/
  warnSat : Vector Bool 2
  /-- `seq_state` (R33). -/
  seqState : SeqState
  /-- `seq_max_duty` (R34). -/
  seqMaxDuty : DutyWord
  /-- `step_frac[i]` (R35). -/
  stepFrac : Vector Word 16
  /-- `step_hold[i]` (R35). -/
  stepHold : Vector Word 16
  /-- `cur_base[k]` (R36). -/
  curBase : Vector (BitVec 8) 2
  /-- `cur_len[k]` (R36). -/
  curLen : Vector (BitVec 8) 2
  /-- `cur_start[k]` (R36). -/
  curStart : Vector (BitVec 8) 2
  /-- `cur_chm[k]` (R36). -/
  curChm : Vector Set2 2
  /-- `idx[k]` (R37). -/
  idx : Vector (BitVec 8) 2
  /-- `running[k]` (R38). -/
  running : Vector Bool 2
  /-- `hold_rem[k]` (R39). -/
  holdRem : Vector Word 2
  /-- `log`, oldest record first (R52). -/
  log : List LogRec
  /-- The model's own (log 3): the response of the latest BUS event since reset. -/
  resp : Option Resp
  /-- The model's own (log 1, log 2): the input ports in the present cycle. -/
  ports : Ports
  /-- The model's own (log 1): the input ports in the cycles to come. -/
  coming : List Ports
  /-- The model's own (log 4): the open parameter `derive_dividers`, as departures from its default. -/
  dividers : List DividerEntry
deriving DecidableEq, Repr

/-- The outcome of an instruction's meaning. -/
abbrev Result := Host.Outcome State Fault Refusal

/-- Ports with no event on them and the two levels low (log 2: DESIGN CHOICE). -/
def Ports.quiet : Ports :=
  { rst := false, bus := none, msTick := false, timTick := false, clkValid := false, timclkHz := 0 }

/-- The machine right after reset: every element of R20 is zero (R53, R200); the model's own fields hold no event, no
response and the default `derive_dividers` (log 1 to log 4). -/
def State.reset : State where
  drvState := .unconfigured
  carrierHz := 0
  alloc := 0
  pscDiv := 0
  maxDuty := 0
  pscCnt := 0
  cnt := 0
  enabled := .replicate 2 false
  dutyValue := .replicate 2 0
  dutyActive := .replicate 2 0
  faultHwinit := false
  faultInvalidStep := false
  faultUsage := false
  faultCause := 0
  faultCur := 0
  faultStep := 0
  warnSat := .replicate 2 false
  seqState := .idle
  seqMaxDuty := 0
  stepFrac := .replicate 16 0
  stepHold := .replicate 16 0
  curBase := .replicate 2 0
  curLen := .replicate 2 0
  curStart := .replicate 2 0
  curChm := .replicate 2 0
  idx := .replicate 2 0
  running := .replicate 2 false
  holdRem := .replicate 2 0
  log := []
  resp := none
  ports := .quiet
  coming := []
  dividers := []

end Sys2Proof.Machine
end

