-- ==== Sys2Proof/Machine/Flags.lean ====
section
/-! DEFINITION. Every flag computation of the block: the test for DutySaturation (R110, R170), membership in a channel
or cursor set, the `fatal` output (R51), the codes of the enumerations (R20) and of the fatal errors (R171). -/

namespace Sys2Proof.Machine

/-- Bit n of a two-bit set (R82, R85, R36). -/
def inSet (m : Set2) (n : Fin 2) : Bool := m.getLsbD n.val

/-- Whether and how a duty write saturates (R110): below 0, or above `max_duty`. -/
def satDir (v : Int) (maxDuty : DutyWord) : Option SatDir :=
  if v < 0 then some .below
  else if v > (maxDuty.toNat : Int) then some .above
  else none

/-- The `fatal` output (R51). -/
def fatal (s : State) : Bool := s.faultHwinit || s.faultInvalidStep

/-- The code of `drv_state` (R20). -/
def DrvState.code : DrvState → BitVec 2
  | .unconfigured => 0 | .configured => 1 | .initFailed => 2

/-- The code of `seq_state` (R20). -/
def SeqState.code : SeqState → BitVec 2
  | .idle => 0 | .running => 1 | .fatal => 2

/-- `dir` in a SAT record: 0 below zero, 1 above `max_duty` (R52). -/
def SatDir.code : SatDir → BitVec 1
  | .below => 0 | .above => 1

/-- The cause code of a fatal error (R171). -/
def FatalError.code : FatalError → BitVec 4
  | .clkInvalid => 1 | .freqUnsupported => 2 | .dividerUnachievable => 3
  | .seqEmpty _ => 4 | .seqRange _ => 5 | .startRange _ => 6 | .channelSet _ => 7
  | .fractionRange _ _ => 8 | .holdZero _ _ => 9

/-- The cursor a fatal error records: 0 where the error has none (R171, R172). -/
def FatalError.cursor : FatalError → CurNum
  | .clkInvalid => 0 | .freqUnsupported => 0 | .dividerUnachievable => 0
  | .seqEmpty k => k | .seqRange k => k | .startRange k => k | .channelSet k => k
  | .fractionRange k _ => k | .holdZero k _ => k

/-- The step-table index a fatal error records: 0 where the cause has no step (R31, R171). -/
def FatalError.entry : FatalError → Nat
  | .clkInvalid => 0 | .freqUnsupported => 0 | .dividerUnachievable => 0
  | .seqEmpty _ => 0 | .seqRange _ => 0 | .startRange _ => 0 | .channelSet _ => 0
  | .fractionRange _ i => i | .holdZero _ i => i

/-- Whether a fatal error is a HardwareInitError (codes 1 to 3) or an InvalidStepError (codes 4 to 9) (R171). -/
def FatalError.isHardwareInit : FatalError → Bool
  | .clkInvalid => true | .freqUnsupported => true | .dividerUnachievable => true
  | .seqEmpty _ => false | .seqRange _ => false | .startRange _ => false | .channelSet _ => false
  | .fractionRange _ _ => false | .holdZero _ _ => false

end Sys2Proof.Machine
end

