-- ==== Sys2Proof/Machine/Operands.lean ====
section
/-! DEFINITION. The data formats: how an operand word is read (R84, R10), the clamp and the fraction mapper (R12, R110,
R113), a step-table entry (R35, R69), and the word that a read of each register returns (R82 to R85). -/

namespace Sys2Proof.Machine

/-! ## Reading an operand -/

/-- `sint32(w)` (R10): two's complement. -/
def sint32 (w : Word) : Int := if w.toNat < 2 ^ 31 then (w.toNat : Int) else (w.toNat : Int) - 2 ^ 32

/-- `clamp(v, lo, hi)` (R12). -/
def clamp (v lo hi : Int) : Int := if v < lo then lo else if v > hi then hi else v

/-- `frac_to_duty(f, m)` (R12, R113), on unbounded integers: rounded, ties up. -/
def fracToDuty (f m : Nat) : Nat := (f * m + Config.fracOne / 2) / Config.fracOne

/-- The value a duty write stores (R110). -/
def dutyOf (v : Int) (maxDuty : DutyWord) : DutyWord := BitVec.ofInt 17 (clamp v 0 maxDuty.toNat)

/-- `step_frac[i]` (R35, R69). An index above 15 names no entry: a free value, which no run reads (log 7). -/
def tableFrac (s : State) (i : Nat) : Word :=
  if h : i < 16 then s.stepFrac[i] else Config.fracBeyondTable i

/-- `step_hold[i]` (R35, R69). -/
def tableHold (s : State) (i : Nat) : Word :=
  if h : i < 16 then s.stepHold[i] else Config.holdBeyondTable i

/-- The table entry that `idx[k]` selects: `cur_base[k] + idx[k]`, without wrap (R37, R114). -/
def entryOf (s : State) (k : CurNum) : Nat := s.curBase[k.val].toNat + s.idx[k.val].toNat

/-! ## The words that reads return: `zext_32` (R10) of the fields, so every bit not listed reads 0 (R85) -/

/-- CONFIG (R82, R115). -/
def configWord (s : State) : Word := BitVec.setWidth 32 (s.alloc ++ s.carrierHz)

/-- MAX_DUTY (R84, R105). -/
def maxDutyWord (s : State) : Word := BitVec.setWidth 32 s.maxDuty

/-- STATUS (R85, R116). -/
def statusWord (s : State) : Word :=
  BitVec.setWidth 32 (BitVec.ofBool (fatal s) ++ s.seqState.code ++ s.drvState.code)

/-- FAULT (R85, R117). -/
def faultWord (s : State) : Word :=
  BitVec.setWidth 32 (BitVec.ofBool s.faultUsage ++ BitVec.ofBool s.faultInvalidStep ++ BitVec.ofBool s.faultHwinit)

/-- FAULT_INFO (R85, R118). -/
def faultInfoWord (s : State) : Word :=
  BitVec.setWidth 32 (s.faultStep ++ 0#3 ++ numBit s.faultCur ++ s.faultCause)

/-- WARN (R85, R119). -/
def warnWord (s : State) : Word :=
  BitVec.setWidth 32 (BitVec.ofBool s.warnSat[1] ++ BitVec.ofBool s.warnSat[0])

/-- PSC_DIV (R84, R120). -/
def pscDivWord (s : State) : Word := BitVec.setWidth 32 s.pscDiv

/-- SEQ_START (R85, R138). -/
def seqStartWord (s : State) : Word :=
  BitVec.setWidth 32 (BitVec.ofBool s.running[1] ++ BitVec.ofBool s.running[0])

/-- CHn_EN (R83, R112). -/
def enWord (s : State) (n : Chan) : Word := BitVec.setWidth 32 (BitVec.ofBool s.enabled[n.val])

/-- CHn_DUTY (R84, R109): the preload value. -/
def dutyWord (s : State) (n : Chan) : Word := BitVec.setWidth 32 s.dutyValue[n.val]

/-- CURk_SEQ (R85, R134). -/
def cursorWord (s : State) (k : CurNum) : Word := cursorData s.curBase[k.val] s.curLen[k.val] s.curStart[k.val] s.curChm[k.val]

/-- CURk_POS (R85, R139). -/
def posWord (s : State) (k : CurNum) : Word := BitVec.setWidth 32 (BitVec.ofBool s.running[k.val] ++ s.idx[k.val])

/-- CURk_HOLD (R85, R140). -/
def holdWord (s : State) (k : CurNum) : Word := s.holdRem[k.val]

/-- The word that an accepted read of a register returns (R81); `none` for the write-only one (R66). -/
def regWord (s : State) : Reg → Option Word
  | .config => some (configWord s)
  | .maxDuty => some (maxDutyWord s)
  | .status => some (statusWord s)
  | .fault => some (faultWord s)
  | .faultInfo => some (faultInfoWord s)
  | .warn => some (warnWord s)
  | .pscDiv => some (pscDivWord s)
  | .seqStart => some (seqStartWord s)
  | .chEn n => some (enWord s n)
  | .chDuty n => some (dutyWord s n)
  | .chDutyFrac _ => none
  | .curSeq k => some (cursorWord s k)
  | .curPos k => some (posWord s k)
  | .curHold k => some (holdWord s k)
  | .stepFrac i => some s.stepFrac[i.val]
  | .stepHold i => some s.stepHold[i.val]

/-- The word at a byte offset of the register space (R60, R65): `none` where no read is accepted. -/
def memWord (s : State) (a : Offset) : Option Word :=
  match regAt a with
  | .ok r => regWord s r
  | .error _ => none

/-- The byte at an offset, for a host that numbers bytes: little-endian lanes (R64). -/
def memByte (s : State) (a : Offset) : Option (BitVec 8) :=
  match memWord s (a &&& 0xFC) with
  | some w => some (w.extractLsb' (8 * (a.toNat % 4)) 8)
  | none => none

end Sys2Proof.Machine
end

