-- ==== Sys2Proof/Machine/Ops.lean ====
section
/-! DEFINITION. The primitives of 00_scope.md R12 and 60_exceptions.md: the bus responses, `emit`, `refuse`, raising a
fatal error (this block's taking of an exception, R178) and the DutySaturation warning, and the one write path of the
duty registers (R110). There is no return from an error (R179). -/

namespace Sys2Proof.Machine

/-- `respond(v)` (R12): the BUS event returns (v, 0). -/
def respond (v : Word) (s : State) : State := { s with resp := some { rdata := v, err := false } }

/-- `ack` (R12): `respond(0)`. -/
def ack (s : State) : State := respond 0 s

/-- The response (0, 1) (R61). -/
def respondErr (s : State) : State := { s with resp := some { rdata := 0, err := true } }

/-- `refuse` (R12, R175): `FAULT.usage` set, response (0, 1), no other change. -/
def refuse (s : State) : State := respondErr { s with faultUsage := true }

/-- `emit(rec)` (R12): append one record. -/
def emit (r : LogRec) (s : State) : State := { s with log := s.log ++ [r] }

/-- The part of the block a fatal error ends (R172, R173): the driver for a HardwareInitError, the sequencer for an
InvalidStepError, with the flag of that error. -/
def endPart (e : FatalError) (s : State) : State :=
  if e.isHardwareInit then { s with faultHwinit := true, drvState := .initFailed }
  else { s with faultInvalidStep := true, seqState := .fatal }

/-- `raise` (R172, R173, R178): the flag, the cause and its information, the part's final state, and the response (0, 1).
Nothing is saved and no control goes anywhere: the handler is the host. -/
def raise (e : FatalError) (s : State) : State :=
  respondErr (endPart e { s with
    faultCause := e.code, faultCur := e.cursor, faultStep := BitVec.ofNat 8 e.entry })

/-- `duty_value[n] <- v` (R11). -/
def setDutyValue (n : Chan) (v : DutyWord) (s : State) : State := { s with dutyValue := s.dutyValue.set n v }

/-- `warn DutySaturation(n, dir)` (R174), after `duty_value[n]` has its clamped value. -/
def warnDutySaturation (n : Chan) (dir : SatDir) (s : State) : State :=
  emit (.sat n dir s.dutyValue[n.val]) { s with warnSat := s.warnSat.set n true }

/-- `drv_set_duty(n, v)` (R110): the clamped write, with the warning when it clamps. -/
def drvSetDuty (n : Chan) (v : Int) (s : State) : State :=
  match satDir v s.maxDuty with
  | some dir => warnDutySaturation n dir (setDutyValue n (dutyOf v s.maxDuty) s)
  | none => setDutyValue n (dutyOf v s.maxDuty) s

/-- The precondition of ENABLE, DISABLE, SET_DUTY and SET_DUTY_FRAC (R106 to R111): configured, channel allocated. -/
def channelOpen (s : State) (n : Chan) : Bool := s.drvState == .configured && inSet s.alloc n

/-- A channel operation with effect `f` (R106 to R111): acknowledged on an open channel, else refused. -/
def onChannel (n : Chan) (f : State → State) (s : State) : State :=
  if channelOpen s n then ack (f s) else refuse s

/-- A table or cursor write with effect `f` (R130, R131, R133): accepted while the sequencer is Idle, else refused. -/
def whileIdle (f : State → State) (s : State) : State :=
  if s.seqState = .idle then ack (f s) else refuse s

end Sys2Proof.Machine
end

