-- ==== Sys2Proof/Machine/Cursor.lean ====
section
/-! DEFINITION. What the sequencer does with a cursor: validation (R136), apply (R137), the start (R135), and the hold,
advance and reload of one millisecond (R157 to R160). -/

namespace Sys2Proof.Machine

/-! ## Validation (R136) -/

/-- The two checks of a table entry, fraction before hold (R136 causes 8 and 9). -/
def checkEntry (s : State) (k : CurNum) (i : Nat) : Option FatalError :=
  if (tableFrac s i).toNat > Config.fracOne then some (.fractionRange k i)
  else if tableHold s i = 0 then some (.holdZero k i)
  else none

/-- The checks of one cursor, in the order of R136; the sum is taken without wrap. -/
def validateCursor (s : State) (k : CurNum) : Option FatalError :=
  if s.curLen[k.val] = 0 then some (.seqEmpty k)
  else if s.curBase[k.val].toNat + s.curLen[k.val].toNat > Config.stepDepth then some (.seqRange k)
  else if s.curStart[k.val].toNat ≥ s.curLen[k.val].toNat then some (.startRange k)
  else if s.curChm[k.val] = 0 ∨ s.curChm[k.val] &&& ~~~s.alloc ≠ 0 then some (.channelSet k)
  else (List.range' s.curBase[k.val].toNat s.curLen[k.val].toNat).findSome? (checkEntry s k)

/-- One cursor's part of `validate`: an unselected cursor is skipped. -/
def validateSelected (s : State) (sel : Set2) (k : CurNum) : Option FatalError :=
  if inSet sel k then validateCursor s k else none

/-- `validate(sel)` (R136): the first failing check, cursor 0 before cursor 1; `none` is `ok`. -/
def validate (s : State) (sel : Set2) : Option FatalError :=
  match validateSelected s sel 0 with
  | some e => some e
  | none => validateSelected s sel 1

/-! ## Apply (R137) -/

/-- Apply's body for one channel: the write through the driver's clamp and the STEP record. -/
def applyChannel (k : CurNum) (f : Word) (v : Nat) (n : Chan) (s : State) : State :=
  if inSet s.curChm[k.val] n then
    let t := drvSetDuty n v s
    emit (.step k n t.idx[k.val] f t.dutyValue[n.val]) t
  else s

/-- The fraction word of cursor k's current step. -/
def currentFrac (s : State) (k : CurNum) : Word := tableFrac s (entryOf s k)

/-- The duty value of cursor k's current step, before the clamp (R137). -/
def currentDuty (s : State) (k : CurNum) : Nat := fracToDuty (currentFrac s k).toNat s.seqMaxDuty.toNat

/-- `apply(k)` (R137): the value is computed once and written to the cursor's channels in ascending order. -/
def applyStep (k : CurNum) (s : State) : State :=
  applyChannel k (currentFrac s k) (currentDuty s k) 1
    (applyChannel k (currentFrac s k) (currentDuty s k) 0 s)

/-- `hold_rem[k] <- step_hold[cur_base[k] + idx[k]]` (R135, R160). -/
def reloadHold (k : CurNum) (s : State) : State :=
  { s with holdRem := s.holdRem.set k (tableHold s (entryOf s k)) }

/-! ## The start of a cursor (R135) -/

/-- The loop body of SEQ_START for one cursor: nothing for an unselected one. -/
def startCursor (sel : Set2) (k : CurNum) (s : State) : State :=
  if inSet sel k then
    reloadHold k (applyStep k { s with idx := s.idx.set k s.curStart[k.val], running := s.running.set k true })
  else s

/-! ## One millisecond of a cursor (R157 to R160) -/

/-- R159: `(idx[k] + 1) mod cur_len[k]`. With an empty Sequence, which no run has, a free value (log 7). -/
def nextOffset (s : State) (k : CurNum) : BitVec 8 :=
  if s.curLen[k.val] = 0 then BitVec.ofNat 8 (Config.advanceInEmpty s.idx[k.val])
  else BitVec.ofNat 8 ((s.idx[k.val].toNat + 1) % s.curLen[k.val].toNat)

/-- R159, R160: the advance, the apply of the new step, and the reload of the hold. -/
def advance (k : CurNum) (s : State) : State :=
  reloadHold k (applyStep k { s with idx := s.idx.set k (nextOffset s k) })

/-- R158: `hold_rem[k] <- hold_rem[k] - 1`, which in every run is at least 0 (from 0, where no run is: log 6). -/
def decHold (k : CurNum) (s : State) : State := { s with holdRem := s.holdRem.set k (s.holdRem[k.val] - 1) }

/-- One cursor's part of MS_TICK (R157): nothing for a stopped cursor. -/
def cursorTick (k : CurNum) (s : State) : State :=
  if s.running[k.val] then
    let t := decHold k s
    if t.holdRem[k.val] = 0 then advance k t else t
  else s

end Sys2Proof.Machine
end

