-- ==== Sys2Proof/Machine/Timer.lean ====
section
/-! DEFINITION. The PWM timer: the prescaler, the counter and the frame-start transfer (R150 to R153), and what a
successful CONFIGURE writes (R100). In every run each sum and count fits its register (R114; elsewhere: log 6). -/

namespace Sys2Proof.Machine

/-- R153: the frame-start transfer. -/
def frameStart (s : State) : State := { s with cnt := 0, dutyActive := s.dutyValue }

/-- R152: one counter tick: up, or back to 0 with a frame start. -/
def counterStep (s : State) : State :=
  if s.cnt.toNat + 1 < s.maxDuty.toNat then { s with cnt := s.cnt + 1 } else frameStart s

/-- R150, R151: one timer clock cycle of a configured timer. -/
def timerTick (s : State) : State :=
  if s.pscCnt.toNat + 1 < s.pscDiv.toNat then { s with pscCnt := s.pscCnt + 1 }
  else counterStep { s with pscCnt := 0 }

/-- R100: the writes of a CONFIGURE that finds the divider pair (p, m). -/
def configureTimer (hz : BitVec 16) (req : Set2) (p m : Nat) (s : State) : State :=
  { s with
    carrierHz := hz, alloc := req, pscDiv := BitVec.ofNat 17 p, maxDuty := BitVec.ofNat 17 m,
    pscCnt := 0, cnt := 0, dutyActive := .replicate 2 0, drvState := .configured }

end Sys2Proof.Machine
end

