-- ==== Sys2Proof/Machine/Autonomous.lean ====
section
/-! DEFINITION. The three events that are no host operation (42_autonomous_steps.md): one meaning each. -/

namespace Sys2Proof.Machine

/-- TIM_TICK as a function of the state (R150). -/
def timTick (s : State) : State := if s.drvState = .configured then timerTick s else s

/-- MS_TICK as a function of the state (R156): cursor 0 completely, then cursor 1 (R157). -/
def msTick (s : State) : State := if s.seqState = .running then cursorTick 1 (cursorTick 0 s) else s

/-- RESET as a function of the state (R164): every element of R20 at its reset value, `log` empty, no response yet. The
environment's fields (the ports and the parameter `derive_dividers`) are no state of the block and stay (log 15). -/
def resetAll (s : State) : State :=
  { State.reset with ports := s.ports, coming := s.coming, dividers := s.dividers }

/-- TIM_TICK (R150). -/
def execTimTick (s : State) : Result := .next (timTick s)

/-- MS_TICK (R156). -/
def execMsTick (s : State) : Result := .next (msTick s)

/-- RESET (R164). -/
def execReset (s : State) : Result := .next (resetAll s)

end Sys2Proof.Machine
end

