-- ==== Sys2Proof/Machine/Dividers.lean ====
section
/-! DEFINITION. `derive_dividers`: its contract R102, its default instance R103, and the open parameter P2 of
92_eei_decisions.md as plain data: the default with a finite table of departures that the contract admits (log 4).
Both arguments have finite width, so every instance that meets R102 is some table. -/

namespace Sys2Proof.Machine

/-- R102: a pair that `derive_dividers(t, hz)` may answer. -/
def isDividerPair (t hz p m : Nat) : Bool :=
  decide (1 ≤ p) && decide (p ≤ Config.pscMax) && decide (1 ≤ m) && decide (m ≤ Config.dutyMax) && p * m * hz == t

/-- R103: the test of the loop body at prescaler p, for `total` timer clock cycles per frame. -/
def prescalerFits (total p : Nat) : Bool := total % p == 0 && decide (total / p ≤ Config.dutyMax)

/-- R103: the default instance, which takes the smallest prescaler. -/
def defaultDividers (t hz : Nat) : Option (Nat × Nat) :=
  if hz = 0 ∨ t % hz ≠ 0 then none
  else if t / hz = 0 then none
  else
    match (List.range' 1 Config.pscMax).find? (prescalerFits (t / hz)) with
    | some p => some (p, t / hz / p)
    | none => none

/-- Whether a departure keeps the contract R102: it answers no pair, or a pair that R102 admits. -/
def DividerEntry.admissible (e : DividerEntry) : Bool :=
  match e.pair with
  | some (p, m) => isDividerPair e.timclkHz.toNat e.hz.toNat p m
  | none => true

/-- Whether a departure is for these two arguments and keeps R102; one that does not is passed over. -/
def DividerEntry.applies (t : Word) (hz : BitVec 16) (e : DividerEntry) : Bool :=
  e.timclkHz == t && e.hz == hz && e.admissible

/-- `derive_dividers(t, hz)` of the platform that `table` describes (R5, R102, R103). -/
def deriveDividers (table : List DividerEntry) (t : Word) (hz : BitVec 16) : Option (Nat × Nat) :=
  match table.find? (DividerEntry.applies t hz) with
  | some e => e.pair
  | none => defaultDividers t.toNat hz.toNat

end Sys2Proof.Machine
end

