-- ==== Sys2Proof/Machine/Driver.lean ====
section
/-! DEFINITION. The PWM Channel Driver's operations (40_driver_ops.md): one meaning per row. Each is one BUS event. -/

namespace Sys2Proof.Machine

/-- R100, past the precondition: the three causes in their order, else the configuration. -/
def tryConfigure (hz : BitVec 16) (req : Set2) (s : State) : State :=
  if s.ports.clkValid = false then raise .clkInvalid s
  else if hz.toNat ≠ Config.carrierHz then raise .freqUnsupported s
  else
    match deriveDividers s.dividers s.ports.timclkHz hz with
    | none => raise .dividerUnachievable s
    | some (p, m) => ack (configureTimer hz req p m s)

/-- CONFIGURE (R100, R101). -/
def execConfigure (hz : BitVec 16) (req : Set2) (s : State) : Result :=
  .next (if s.drvState = .unconfigured ∧ hz ≠ 0 ∧ req ≠ 0 then tryConfigure hz req s else refuse s)

/-- RD_CONFIG (R115). -/
def execRdConfig (s : State) : Result := .next (respond (configWord s) s)

/-- RESOLUTION (R105). -/
def execResolution (s : State) : Result := .next (respond (maxDutyWord s) s)

/-- RD_STATUS (R116). -/
def execRdStatus (s : State) : Result := .next (respond (statusWord s) s)

/-- RD_FAULT (R117). -/
def execRdFault (s : State) : Result := .next (respond (faultWord s) s)

/-- RD_FAULT_INFO (R118). -/
def execRdFaultInfo (s : State) : Result := .next (respond (faultInfoWord s) s)

/-- RD_WARN (R119). -/
def execRdWarn (s : State) : Result := .next (respond (warnWord s) s)

/-- RD_PSC_DIV (R120). -/
def execRdPscDiv (s : State) : Result := .next (respond (pscDivWord s) s)

/-- ENABLE (R106). -/
def execEnable (n : Chan) (s : State) : Result :=
  .next (onChannel n (fun t => { t with enabled := t.enabled.set n true }) s)

/-- DISABLE (R107). -/
def execDisable (n : Chan) (s : State) : Result :=
  .next (onChannel n (fun t => { t with enabled := t.enabled.set n false }) s)

/-- RD_EN (R112). -/
def execRdEn (n : Chan) (s : State) : Result := .next (respond (enWord s n) s)

/-- SET_DUTY (R108). -/
def execSetDuty (n : Chan) (value : Word) (s : State) : Result :=
  .next (onChannel n (drvSetDuty n (sint32 value)) s)

/-- RD_DUTY (R109). -/
def execRdDuty (n : Chan) (s : State) : Result := .next (respond (dutyWord s n) s)

/-- SET_DUTY_FRAC (R111). -/
def execSetDutyFrac (n : Chan) (f : Word) (s : State) : Result :=
  .next (onChannel n (drvSetDuty n (fracToDuty f.toNat s.maxDuty.toNat)) s)

end Sys2Proof.Machine
end

