-- ==== Sys2Proof/Machine/Sequencer.lean ====
section
/-! DEFINITION. The Duty Sequencer's host operations (41_sequencer_ops.md): one meaning per row. Each is one BUS event. -/

namespace Sys2Proof.Machine

/-- R135, the ok branch: the latch, the state, and the selected cursors in ascending order. -/
def startSequencer (sel : Set2) (s : State) : State :=
  startCursor sel 1 (startCursor sel 0 { s with seqMaxDuty := s.maxDuty, seqState := .running })

/-- R135, past the precondition: validate, then start or raise. -/
def tryStart (sel : Set2) (s : State) : State :=
  match validate s sel with
  | some e => raise e s
  | none => ack (startSequencer sel s)

/-- SEQ_START (R135). -/
def execSeqStart (sel : Set2) (s : State) : Result :=
  .next (if s.drvState = .configured ∧ s.seqState = .idle ∧ sel ≠ 0 then tryStart sel s else refuse s)

/-- RD_SEQ_START (R138). -/
def execRdSeqStart (s : State) : Result := .next (respond (seqStartWord s) s)

/-- WR_CURSOR (R133). -/
def execWrCursor (k : CurNum) (base len start : BitVec 8) (chm : Set2) (s : State) : Result :=
  .next (whileIdle (fun t => { t with
    curBase := t.curBase.set k base, curLen := t.curLen.set k len,
    curStart := t.curStart.set k start, curChm := t.curChm.set k chm }) s)

/-- RD_CURSOR (R134). -/
def execRdCursor (k : CurNum) (s : State) : Result := .next (respond (cursorWord s k) s)

/-- RD_POS (R139). -/
def execRdPos (k : CurNum) (s : State) : Result := .next (respond (posWord s k) s)

/-- RD_HOLD (R140). -/
def execRdHold (k : CurNum) (s : State) : Result := .next (respond (holdWord s k) s)

/-- WR_STEP_FRAC (R130). -/
def execWrStepFrac (i : StepIdx) (f : Word) (s : State) : Result :=
  .next (whileIdle (fun t => { t with stepFrac := t.stepFrac.set i f }) s)

/-- WR_STEP_HOLD (R131). -/
def execWrStepHold (i : StepIdx) (h : Word) (s : State) : Result :=
  .next (whileIdle (fun t => { t with stepHold := t.stepHold.set i h }) s)

/-- RD_STEP_FRAC (R132). -/
def execRdStepFrac (i : StepIdx) (s : State) : Result := .next (respond s.stepFrac[i.val] s)

/-- RD_STEP_HOLD (R143). -/
def execRdStepHold (i : StepIdx) (s : State) : Result := .next (respond s.stepHold[i.val] s)

end Sys2Proof.Machine
end

