-- ==== Sys2Proof/Machine/Dispatch.lean ====
section
/-! DEFINITION. One arm per constructor of Instr. -/

namespace Sys2Proof.Machine

def exec (i : Instr) (s : State) : Host.Outcome State Fault Refusal :=
  match i with
  | .configure hz req => Sys2Proof.Machine.execConfigure hz req s
  | .rdConfig => Sys2Proof.Machine.execRdConfig s
  | .resolution => Sys2Proof.Machine.execResolution s
  | .rdStatus => Sys2Proof.Machine.execRdStatus s
  | .rdFault => Sys2Proof.Machine.execRdFault s
  | .rdFaultInfo => Sys2Proof.Machine.execRdFaultInfo s
  | .rdWarn => Sys2Proof.Machine.execRdWarn s
  | .rdPscDiv => Sys2Proof.Machine.execRdPscDiv s
  | .seqStart sel => Sys2Proof.Machine.execSeqStart sel s
  | .rdSeqStart => Sys2Proof.Machine.execRdSeqStart s
  | .enable n => Sys2Proof.Machine.execEnable n s
  | .disable n => Sys2Proof.Machine.execDisable n s
  | .rdEn n => Sys2Proof.Machine.execRdEn n s
  | .setDuty n value => Sys2Proof.Machine.execSetDuty n value s
  | .rdDuty n => Sys2Proof.Machine.execRdDuty n s
  | .setDutyFrac n f => Sys2Proof.Machine.execSetDutyFrac n f s
  | .wrCursor k base len start chm => Sys2Proof.Machine.execWrCursor k base len start chm s
  | .rdCursor k => Sys2Proof.Machine.execRdCursor k s
  | .rdPos k => Sys2Proof.Machine.execRdPos k s
  | .rdHold k => Sys2Proof.Machine.execRdHold k s
  | .wrStepFrac i' f => Sys2Proof.Machine.execWrStepFrac i' f s
  | .wrStepHold i' h => Sys2Proof.Machine.execWrStepHold i' h s
  | .rdStepFrac i' => Sys2Proof.Machine.execRdStepFrac i' s
  | .rdStepHold i' => Sys2Proof.Machine.execRdStepHold i' s
  | .timTick => Sys2Proof.Machine.execTimTick s
  | .msTick => Sys2Proof.Machine.execMsTick s
  | .reset => Sys2Proof.Machine.execReset s

end Sys2Proof.Machine
end

