-- ==== Sys2Proof/Machine/Event.lean ====
section
/-! DEFINITION. The events and their order (00_scope.md R7, R8): which event of the present cycle comes next, what taking
it leaves on the ports, the BUS event with the decoding procedure R87, and the host's two primitives (R11). -/

namespace Sys2Proof.Machine

/-- The four kinds of event (R7). -/
inductive Event where
  | rst
  | bus (t : BusWord)
  | msTick
  | timTick
deriving DecidableEq, Repr

/-- R8: RESET first of all, then BUS, then MS_TICK, then TIM_TICK; `none` when the cycle has no event (left). -/
def nextEvent (p : Ports) : Option Event :=
  if p.rst then some .rst
  else
    match p.bus with
    | some t => some (.bus t)
    | none => if p.msTick then some .msTick else if p.timTick then some .timTick else none

/-- What taking an event leaves on the event lines: its own line is cleared; RESET discards all the others (R8). -/
def takeEvent (e : Event) (p : Ports) : Ports :=
  match e with
  | .rst => { p with rst := false, bus := none, msTick := false, timTick := false }
  | .bus _ => { p with bus := none }
  | .msTick => { p with msTick := false }
  | .timTick => { p with timTick := false }

/-- The BUS event (R87): a word that selects no row is refused, whatever the reason (R88, R175). -/
def busEvent (t : BusWord) (s : State) : Result :=
  match decode t with
  | .ok i => exec i s
  | .error _ => .next (refuse s)

/-- One event. -/
def runEvent (e : Event) (s : State) : Result :=
  match e with
  | .rst => exec .reset s
  | .bus t => busEvent t s
  | .msTick => exec .msTick s
  | .timTick => exec .timTick s

/-- No event is left in the present cycle: the next cycle's port values arrive; with none to come nothing changes
(log 8). -/
def nextCycle (s : State) : State :=
  match s.coming with
  | [] => s
  | p :: rest => { s with ports := p, coming := rest }

/-- `MemRead(addr, 4)` (R11): a host read. -/
def hostRead (addr : Offset) (s : State) : Result := busEvent (busWord false addr 0) s

/-- `MemWrite(addr, 4, v)` (R11): a host write. -/
def hostWrite (addr : Offset) (v : Word) (s : State) : Result := busEvent (busWord true addr v) s

/-- Ports as they are but for a bus request t, which the next step takes: no RESET stands before it. -/
def requestOn (t : BusWord) (p : Ports) : Ports := { p with rst := false, bus := some t }

end Sys2Proof.Machine
end

