-- ==== Sys2Proof/Machine/Step.lean ====
section
/-! DEFINITION. One step: the next event of the present cycle, or the arrival of the next cycle (log 1, log 9). -/

namespace Sys2Proof.Machine

/-- One step of the machine: at most one event (R7, R8). -/
def step (s : State) : Host.Outcome State Fault Refusal :=
  match nextEvent s.ports with
  | some e => runEvent e { s with ports := takeEvent e s.ports }
  | none => .next (nextCycle s)

/-- The state with the transaction word `w` requested on the bus, which the next step runs (log 1, log 14). -/
def State.withFetchWord (s : State) (nbits w : Nat) : State :=
  { s with ports := requestOn (BitVec.ofNat 41 (w % 2 ^ nbits)) s.ports }

end Sys2Proof.Machine
end

