-- ==== Sys2Proof/Machine/Outputs.lean ====
section
/-! DEFINITION. The output ports (R51, R52): functions of the state, recomputed after every event. `fatal` is in
Flags.lean; the bus response is the field `resp`. -/

namespace Sys2Proof.Machine

/-- `pwm_out[n]` (R51). -/
def pwmOut (s : State) (n : Chan) : Bool :=
  s.drvState == .configured && inSet s.alloc n && s.enabled[n.val] && decide (s.cnt.toNat < s.dutyActive[n.val].toNat)

/-- `ev_rec` (R52): the 64-bit word of a record on the event port. -/
def LogRec.word : LogRec → BitVec 64
  | .step k n j f v => BitVec.setWidth 64 (f ++ 0#3 ++ v ++ j ++ numBit k ++ numBit n ++ 1#2)
  | .sat n dir v => BitVec.setWidth 64 (0#32 ++ 0#3 ++ v ++ 0#8 ++ dir.code ++ numBit n ++ 2#2)

end Sys2Proof.Machine
end

