-- ==== Sys2Proof/Machine/Pseudo.lean ====
section
/-! DEFINITION. The notation of 30_encoding.md R91 and the pseudo-operations of R92, for the examples of the spec. The
block itself has no textual form (R91): no meaning uses this file. -/

namespace Sys2Proof.Machine

/-! ## Pseudo-operations (R92) -/

/-- `STEP i, f, h`. -/
def stepPseudo (i : StepIdx) (f h : Word) : List Instr := [.wrStepFrac i f, .wrStepHold i h]

/-- `FRAC(x)` for x = num / den: `floor(x * 65536 + 1/2)`. -/
def fracLiteral (num den : Nat) : Nat := (2 * num * Config.fracOne + den) / (2 * den)

/-- `op * N` (R91). -/
def repeatOp (op : Instr) (n : Nat) : List Instr := List.replicate n op

/-- `FRAME`: one whole frame of timer clock. -/
def frameOps (s : State) : List Instr := repeatOp .timTick (s.pscDiv.toNat * s.maxDuty.toNat)

/-! ## Text (R91) -/

/-- `Ch1` or `Ch2`. -/
def chanText (n : Chan) : String := if n = 0 then "Ch1" else "Ch2"

/-- A set in braces; `name` writes a member. -/
def setText (m : Set2) (zero one : String) : String :=
  String.singleton (Char.ofNat 123)
    ++ ((if inSet m 0 then [zero] else []) ++ (if inSet m 1 then [one] else [])).foldl
        (fun acc x => if acc.isEmpty then x else acc ++ "," ++ x) ""
    ++ String.singleton (Char.ofNat 125)

/-- The name of a register (R81). -/
def Reg.nameText : Reg → String
  | .config => "CONFIG" | .maxDuty => "MAX_DUTY" | .status => "STATUS" | .fault => "FAULT"
  | .faultInfo => "FAULT_INFO" | .warn => "WARN" | .pscDiv => "PSC_DIV" | .seqStart => "SEQ_START"
  | .chEn n => "CH" ++ toString (n.val + 1) ++ "_EN"
  | .chDuty n => "CH" ++ toString (n.val + 1) ++ "_DUTY"
  | .chDutyFrac n => "CH" ++ toString (n.val + 1) ++ "_DUTY_FRAC"
  | .curSeq k => "CUR" ++ toString k.val ++ "_SEQ"
  | .curPos k => "CUR" ++ toString k.val ++ "_POS"
  | .curHold k => "CUR" ++ toString k.val ++ "_HOLD"
  | .stepFrac i => "STEP" ++ toString i.val ++ "_FRAC"
  | .stepHold i => "STEP" ++ toString i.val ++ "_HOLD"

/-- `RD name`. -/
def readText (r : Reg) : String := "RD " ++ Reg.nameText r

/-- One line of R91. -/
def Instr.text : Instr → String
  | .configure hz req => "CONFIGURE " ++ toString hz.toNat ++ ", " ++ setText req "Ch1" "Ch2"
  | .rdConfig => readText .config
  | .resolution => "RESOLUTION"
  | .rdStatus => readText .status
  | .rdFault => readText .fault
  | .rdFaultInfo => readText .faultInfo
  | .rdWarn => readText .warn
  | .rdPscDiv => readText .pscDiv
  | .seqStart sel => "SEQ_START " ++ setText sel "0" "1"
  | .rdSeqStart => readText .seqStart
  | .enable n => "ENABLE " ++ chanText n
  | .disable n => "DISABLE " ++ chanText n
  | .rdEn n => readText (.chEn n)
  | .setDuty n value => "SET_DUTY " ++ chanText n ++ ", " ++ toString (sint32 value)
  | .rdDuty n => readText (.chDuty n)
  | .setDutyFrac n f => "SET_DUTY_FRAC " ++ chanText n ++ ", " ++ toString f.toNat
  | .wrCursor k base len start chm =>
    "WR_CURSOR " ++ toString k.val ++ ", " ++ toString base.toNat ++ ", " ++ toString len.toNat ++ ", "
      ++ toString start.toNat ++ ", " ++ setText chm "Ch1" "Ch2"
  | .rdCursor k => readText (.curSeq k)
  | .rdPos k => readText (.curPos k)
  | .rdHold k => readText (.curHold k)
  | .wrStepFrac i f => "WR_STEP_FRAC " ++ toString i.val ++ ", " ++ toString f.toNat
  | .wrStepHold i h => "WR_STEP_HOLD " ++ toString i.val ++ ", " ++ toString h.toNat
  | .rdStepFrac i => readText (.stepFrac i)
  | .rdStepHold i => readText (.stepHold i)
  | .timTick => "TIM_TICK"
  | .msTick => "MS_TICK"
  | .reset => "RESET"

/-- The ENV line of R91, which sets the two levels that CONFIGURE reads and is no event. -/
def envText (p : Ports) : String :=
  "ENV clk_valid=" ++ (if p.clkValid then "1" else "0") ++ ", timclk_hz=" ++ toString p.timclkHz.toNat

end Sys2Proof.Machine
end

