-- ==== Sys2Proof/Safety.lean ====
section
/-! DEFINITION. What claims about runs speak of: the legal values of R20, the invariants of R40, the premises that
93_implementation_defined.md asks claims about programs to carry, and repeated ticks. -/

namespace Sys2Proof.Machine

/-- The legal values of R20 that the widths alone do not give. -/
structure Legal (s : State) : Prop where
  carrier : s.carrierHz = 0 ∨ s.carrierHz = 50
  psc_le : s.pscDiv.toNat ≤ Config.pscMax
  max_le : s.maxDuty.toNat ≤ Config.dutyMax
  cause_le : s.faultCause.toNat ≤ 9
  step_le : s.faultStep.toNat ≤ 15

/-- R40 item 7 for cursor k. -/
structure CursorOk (s : State) (k : CurNum) : Prop where
  seq_running : s.seqState = .running
  idx_lt : s.idx[k.val].toNat < s.curLen[k.val].toNat
  range_le : s.curBase[k.val].toNat + s.curLen[k.val].toNat ≤ Config.stepDepth
  hold_pos : 1 ≤ s.holdRem[k.val].toNat
  latch : s.seqMaxDuty = s.maxDuty
  steps : ∀ i : StepIdx, s.curBase[k.val].toNat ≤ i.val → i.val < s.curBase[k.val].toNat + s.curLen[k.val].toNat →
    s.stepFrac[i.val].toNat ≤ Config.fracOne ∧ 1 ≤ s.stepHold[i.val].toNat

/-- R40 item 2: what a driver that is not Configured leaves clear. -/
structure DriverClear (s : State) : Prop where
  enabled : ∀ n : Chan, s.enabled[n.val] = false
  duty : ∀ n : Chan, s.dutyValue[n.val] = 0
  active : ∀ n : Chan, s.dutyActive[n.val] = 0
  cnt : s.cnt = 0
  psc : s.pscCnt = 0
  seq : s.seqState = .idle

/-- The invariants of R40, items 1 to 7, the legal values of R20 (with "0 (unconfigured)" of its driver rows), and R31:
no cause is recorded before a fatal error. (Item 8 of R40 relates two states: `SameProgram`.) -/
structure Invariants (s : State) : Prop where
  legal : Legal s
  unconfigured_zero : s.drvState ≠ .configured → s.carrierHz = 0 ∧ s.alloc = 0 ∧ s.pscDiv = 0
  configured_iff : s.drvState = .configured ↔ 1 ≤ s.maxDuty.toNat
  configured_timer : s.drvState = .configured → 1 ≤ s.pscDiv.toNat ∧ s.carrierHz = 50 ∧ s.alloc ≠ 0
  driver_clear : s.drvState ≠ .configured → DriverClear s
  duty_le : ∀ n : Chan, s.dutyValue[n.val].toNat ≤ s.maxDuty.toNat ∧ s.dutyActive[n.val].toNat ≤ s.maxDuty.toNat
  enabled_alloc : ∀ n : Chan, s.enabled[n.val] = true → inSet s.alloc n = true
  counters : s.drvState = .configured → s.cnt.toNat < s.maxDuty.toNat ∧ s.pscCnt.toNat < s.pscDiv.toNat
  hwinit_iff : s.faultHwinit = true ↔ s.drvState = .initFailed
  invalid_iff : s.faultInvalidStep = true ↔ s.seqState = .fatal
  fatal_info : fatal s = false → s.faultCause = 0 ∧ s.faultCur = 0 ∧ s.faultStep = 0
  cursors : ∀ k : CurNum, s.running[k.val] = true → CursorOk s k

/-- R40 item 8, R73: the step table and the cursor configuration of two states agree. -/
def SameProgram (s t : State) : Prop :=
  t.stepFrac = s.stepFrac ∧ t.stepHold = s.stepHold ∧ t.curBase = s.curBase ∧ t.curLen = s.curLen
    ∧ t.curStart = s.curStart ∧ t.curChm = s.curChm

/-- U1, U2 of 93_implementation_defined.md: the premise "no refusal happened" of a claim about a correct program. -/
def noRefusal (s : State) : Bool := !s.faultUsage

/-- U5, R209: the channel sets of the running cursors are disjoint. -/
def disjointWriters (s : State) : Bool := !(s.running[0] && s.running[1] && (s.curChm[0] &&& s.curChm[1]) != 0)

/-- A step is safe when it answers a next state: no fault and no refusal (R9, R187). -/
def SafeStep (s : State) : Prop := ∃ t, step s = .next t

/-- `j` TIM_TICK events in a row. -/
def timTicks : Nat → State → State
  | 0, s => s
  | j + 1, s => timTicks j (timTick s)

/-- `j` MS_TICK events in a row. -/
def msTicks : Nat → State → State
  | 0, s => s
  | j + 1, s => msTicks j (msTick s)

end Sys2Proof.Machine
end

