-- ==== Sys2Proof/Certificates/Slice0/Obligations.lean ====
section
/-! DEFINITION. The statements about the model, one `Prop` each, and first the words they share. The statements' own
words (`Claims`) say effects as explicit state literals and integer formulas, apart from the meanings' definitions. -/

namespace Sys2Proof.Claims

open Sys2Proof.Machine

/-- A refused transaction leaves this (R12, R175): `FAULT.usage` set, response (0, 1), nothing else. -/
def refused (s : State) : State := { s with faultUsage := true, resp := some ⟨0, true⟩ }

/-- An accepted write answers (0, 0) (R61). -/
def acked (s : State) : State := { s with resp := some ⟨0, false⟩ }

/-- The read `i` is accepted in state `s`, returns the number `v`, and changes nothing else (R61, R67). -/
def Answers (i : Instr) (s : State) (v : Nat) : Prop :=
  exec i s = .next { s with resp := some ⟨BitVec.ofNat 32 v, false⟩ }

/-- A word of the transaction with write bit `w`, byte offset `a` and data `d`, as the number R80 makes of it. -/
def wordOf (w a d : Nat) : Option BusWord := some (BitVec.ofNat 41 (w * 2 ^ 40 + a * 2 ^ 32 + d))

/-- `raise HardwareInitError(c)` leaves this (R172). -/
def hwInitFailed (c : BitVec 4) (s : State) : State :=
  { s with faultHwinit := true, faultCause := c, faultCur := 0, faultStep := 0, drvState := .initFailed,
           resp := some ⟨0, true⟩ }

/-- `raise InvalidStepError(c, k, i)` leaves this (R173). -/
def stepInvalid (c : BitVec 4) (k : CurNum) (i : BitVec 8) (s : State) : State :=
  { s with faultInvalidStep := true, faultCause := c, faultCur := k, faultStep := i, seqState := .fatal,
           resp := some ⟨0, true⟩ }

/-- A duty write of the integer `v` to channel n leaves this (R110, R174). -/
def clampedWrite (n : Chan) (v : Int) (s : State) : State :=
  if v < 0 then
    { s with dutyValue := s.dutyValue.set n 0, warnSat := s.warnSat.set n true, log := s.log ++ [.sat n .below 0] }
  else if (s.maxDuty.toNat : Int) < v then
    { s with dutyValue := s.dutyValue.set n s.maxDuty, warnSat := s.warnSat.set n true,
             log := s.log ++ [.sat n .above s.maxDuty] }
  else { s with dutyValue := s.dutyValue.set n (BitVec.ofInt 17 v) }

/-- The channel operations' precondition (R106 to R111). -/
def Open (s : State) (n : Chan) : Prop := s.drvState = .configured ∧ s.alloc.getLsbD n.val = true

/-- The offsets of R66 that hold no register. -/
def unmappedOffset (a : Nat) : Prop := a = 0x2C ∨ a = 0x3C ∨ a = 0x4C ∨ a = 0x5C ∨ (0x60 ≤ a ∧ a ≤ 0x7C)

/-- The offsets of R175 item 3: MAX_DUTY, STATUS, FAULT, FAULT_INFO, WARN, PSC_DIV, CURk_POS, CURk_HOLD. -/
def readOnlyOffset (a : Nat) : Prop :=
  a = 0x04 ∨ a = 0x08 ∨ a = 0x0C ∨ a = 0x10 ∨ a = 0x14 ∨ a = 0x18 ∨ a = 0x44 ∨ a = 0x54 ∨ a = 0x48 ∨ a = 0x58

/-- The transactions of R88 (R175 items 1 to 4). -/
def Illegal (t : BusWord) : Prop :=
  (busAddr t).toNat % 4 ≠ 0 ∨ unmappedOffset (busAddr t).toNat ∨
  (busWe t = true ∧ readOnlyOffset (busAddr t).toNat) ∨
  (busWe t = false ∧ ((busAddr t).toNat = 0x28 ∨ (busAddr t).toNat = 0x38))

/-- R175 items 5 to 9, on the operation that a transaction selects. -/
def PreconditionFails (s : State) : Instr → Prop
  | .configure hz req => s.drvState ≠ .unconfigured ∨ hz = 0 ∨ req = 0
  | .enable n => ¬ Open s n
  | .disable n => ¬ Open s n
  | .setDuty n _ => ¬ Open s n
  | .setDutyFrac n _ => ¬ Open s n
  | .seqStart sel => s.drvState ≠ .configured ∨ s.seqState ≠ .idle ∨ sel = 0
  | .wrStepFrac _ _ => s.seqState ≠ .idle
  | .wrStepHold _ _ => s.seqState ≠ .idle
  | .wrCursor _ _ _ _ _ => s.seqState ≠ .idle
  | _ => False

/-! ## Validation (R136) -/

def LenOk (s : State) (k : CurNum) : Prop := s.curLen[k.val] ≠ 0
def RangeOk (s : State) (k : CurNum) : Prop := s.curBase[k.val].toNat + s.curLen[k.val].toNat ≤ 16
def StartOk (s : State) (k : CurNum) : Prop := s.curStart[k.val].toNat < s.curLen[k.val].toNat
/-- The cursor's channel set is not empty and every channel in it is allocated. -/
def ChannelsOk (s : State) (k : CurNum) : Prop :=
  s.curChm[k.val] ≠ 0 ∧ ∀ n : Chan, s.curChm[k.val].getLsbD n.val = true → s.alloc.getLsbD n.val = true
/-- Table entry i belongs to cursor k's Sequence. -/
def InSequence (s : State) (k : CurNum) (i : Nat) : Prop :=
  s.curBase[k.val].toNat ≤ i ∧ i < s.curBase[k.val].toNat + s.curLen[k.val].toNat
def FracOk (s : State) (i : Nat) : Prop := (tableFrac s i).toNat ≤ 65536
def HoldOk (s : State) (i : Nat) : Prop := tableHold s i ≠ 0

/-- Cursor k passes all the checks of R136. -/
def CursorValid (s : State) (k : CurNum) : Prop :=
  LenOk s k ∧ RangeOk s k ∧ StartOk s k ∧ ChannelsOk s k ∧ ∀ i, InSequence s k i → FracOk s i ∧ HoldOk s i

/-- The four configuration checks pass, and so does every entry of cursor k's Sequence before entry i. -/
def PassesBefore (s : State) (k : CurNum) (i : Nat) : Prop :=
  LenOk s k ∧ RangeOk s k ∧ StartOk s k ∧ ChannelsOk s k ∧ InSequence s k i ∧
  ∀ j, InSequence s k j → j < i → FracOk s j ∧ HoldOk s j

/-- The check that `e` names fails and every check before it, of the same cursor, passes (R136). -/
def FirstFailureOf (s : State) : FatalError → Prop
  | .seqEmpty k => ¬ LenOk s k
  | .seqRange k => LenOk s k ∧ ¬ RangeOk s k
  | .startRange k => LenOk s k ∧ RangeOk s k ∧ ¬ StartOk s k
  | .channelSet k => LenOk s k ∧ RangeOk s k ∧ StartOk s k ∧ ¬ ChannelsOk s k
  | .fractionRange k i => PassesBefore s k i ∧ ¬ FracOk s i
  | .holdZero k i => PassesBefore s k i ∧ FracOk s i ∧ ¬ HoldOk s i
  | _ => False

/-! ## Steps of a Sequence -/

/-- The duty, in hardware units, of offset j of cursor k's Sequence (R113, R137). -/
def stepDuty (s : State) (k : CurNum) (j : Nat) : Nat :=
  ((tableFrac s (s.curBase[k.val].toNat + j)).toNat * s.maxDuty.toNat + 32768) / 65536

/-- The STEP record of offset j of cursor k on channel n (R52, R137). -/
def stepRecord (s : State) (k : CurNum) (n : Chan) (j : Nat) : LogRec :=
  .step k n (BitVec.ofNat 8 j) (tableFrac s (s.curBase[k.val].toNat + j)) (BitVec.ofNat 17 (stepDuty s k j))

/-- The STEP records of one apply of offset j by cursor k: its channels in ascending order. -/
def stepRecords (s : State) (k : CurNum) (j : Nat) : List LogRec :=
  (if s.curChm[k.val].getLsbD 0 then [stepRecord s k 0 j] else []) ++
  (if s.curChm[k.val].getLsbD 1 then [stepRecord s k 1 j] else [])

/-- What apply's loop body leaves for channel n, for the fraction f and the duty v of cursor k's step (R137). -/
def appliedTo (k : CurNum) (f : Word) (v : Nat) (n : Chan) (s : State) : State :=
  if s.curChm[k.val].getLsbD n.val then
    { clampedWrite n v s with
      log := (clampedWrite n v s).log ++ [.step k n s.idx[k.val] f (clampedWrite n v s).dutyValue[n.val]] }
  else s

/-- Whether cursor k's current step ends in this millisecond (R158). -/
def Due (s : State) (k : CurNum) : Prop := s.running[k.val] = true ∧ s.holdRem[k.val] = 1

/-- The offset after the current one, wrapping circularly (R159). -/
def nextIdx (s : State) (k : CurNum) : Nat := (s.idx[k.val].toNat + 1) % s.curLen[k.val].toNat

/-- The hold, in milliseconds, of offset j of cursor k's Sequence. -/
def stepHoldOf (s : State) (k : CurNum) (j : Nat) : Nat := (tableHold s (s.curBase[k.val].toNat + j)).toNat

/-- How many MS_TICKs from state `s` it takes cursor k to make `j` advances (R161, R162): the rest of the present hold,
then the hold of each step applied on the way. -/
def ticksToAdvance (s : State) (k : CurNum) : Nat → Nat
  | 0 => 0
  | 1 => s.holdRem[k.val].toNat
  | j + 2 => ticksToAdvance s k (j + 1) + stepHoldOf s k ((s.idx[k.val].toNat + (j + 1)) % s.curLen[k.val].toNat)

/-- The next TIM_TICK ends a frame (R150, R152). -/
def FrameEnds (s : State) : Prop :=
  s.drvState = .configured ∧ s.pscDiv.toNat ≤ s.pscCnt.toNat + 1 ∧ s.maxDuty.toNat ≤ s.cnt.toNat + 1

end Sys2Proof.Claims

open Sys2Proof Sys2Proof.Machine Sys2Proof.Claims

/-! ## Encoding -/

/-- R80, R81, R91: every host operation has a word, and the word decodes to it with every operand. -/
def Obligations.DecodeOfEncodeIsIdentity : Prop :=
  ∀ i : Instr, i ≠ .timTick → i ≠ .msTick → i ≠ .reset → ∃ t, encode i = some t ∧ decode t = .ok i

/-- R80, R81: a word that selects an operation agrees with that operation's own word in direction and offset. -/
def Obligations.EncodeOfDecodeKeepsTransaction : Prop :=
  ∀ t i, decode t = .ok i →
    ∃ c, encode i = some c ∧ decode c = .ok i ∧ busWe c = busWe t ∧ busAddr c = busAddr t

/-- R86: a word selects at most one row of the table; it decodes to that row's operation; with no row it is refused. -/
def Obligations.TransactionSelectsOneTableRow : Prop :=
  (∀ t, ∀ r ∈ opRows, ∀ r' ∈ opRows, t &&& r.mask = r.pattern → t &&& r'.mask = r'.pattern → r = r') ∧
  (∀ t, ∀ r ∈ opRows, t &&& r.mask = r.pattern → ∃ i, decode t = .ok i ∧ i.mnemonic = r.mnemonic) ∧
  (∀ t, (∀ r ∈ opRows, t &&& r.mask ≠ r.pattern) → ∀ s, busEvent t s = .next (refused s))

/-- R88: exactly the listed transactions select no operation, and each is refused. -/
def Obligations.IllegalTransactionsAreRefused : Prop :=
  ∀ t, (Illegal t ↔ ∃ e, decode t = .error e) ∧ (Illegal t → ∀ s, busEvent t s = .next (refused s))

/-- R89: reserved bits of a written word change nothing that happens, and reserved bits of a read word are 0. -/
def Obligations.ReservedBitsAreIgnored : Prop :=
  ∀ (d : Word) (n : Chan) (k : CurNum) (s : State),
    hostWrite 0x00 d s = hostWrite 0x00 (d &&& 0x0003FFFF) s ∧
    hostWrite 0x1C d s = hostWrite 0x1C (d &&& 0x00000003) s ∧
    hostWrite (BitVec.ofNat 8 (0x20 + 0x10 * n.val)) d s =
      hostWrite (BitVec.ofNat 8 (0x20 + 0x10 * n.val)) (d &&& 0x00000001) s ∧
    hostWrite (BitVec.ofNat 8 (0x40 + 0x10 * k.val)) d s =
      hostWrite (BitVec.ofNat 8 (0x40 + 0x10 * k.val)) (d &&& 0x03FFFFFF) s ∧
    configWord s &&& 0xFFFC0000 = 0 ∧ seqStartWord s &&& 0xFFFFFFFC = 0 ∧
    enWord s n &&& 0xFFFFFFFE = 0 ∧ cursorWord s k &&& 0xFC000000 = 0

/-- 95_test_vectors.md section 2.8: words written out there decode to the operations it names. -/
def Obligations.WrittenWordsDecode : Prop :=
  decode 0x10000010032 = .ok (.configure 50 1) ∧ decode 0x000DEADBEEF = .ok .rdConfig ∧
  decode 0x13000000001 = .ok (.enable 1) ∧ decode 0x13000000002 = .ok (.disable 1) ∧
  decode 0x15002010200 = .ok (.wrCursor 1 0 2 1 2) ∧ decode 0x05800000000 = .ok (.rdHold 1) ∧
  decode 0x1F800000000 = .ok (.wrStepFrac 15 0) ∧ decode 0x0A400000000 = .ok (.rdStepHold 4) ∧
  decode 0x11C00000003 = .ok (.seqStart 3) ∧ decode 0x124FFFFFFFB = .ok (.setDuty 0 (-5))

/-! ## Steps and events -/

/-- R7, R8, R87: a step runs the pending event's instruction, on the ports without that event; a word that selects no
operation is refused; with no event waiting a step brings in the next cycle's ports and changes nothing else, and with no
cycle to come it changes nothing. (That events wait on ports held in the state, and that a step with no event uses up the
cycles to come, is the model's choice: log 1, log 8, log 9.) -/
def Obligations.StepRunsPendingEvent : Prop :=
  ∀ s : State,
    (∀ t i, s.ports.rst = false → s.ports.bus = some t → decode t = .ok i →
      step s = exec i { s with ports := { s.ports with bus := none } }) ∧
    (∀ t e, s.ports.rst = false → s.ports.bus = some t → decode t = .error e →
      step s = .next (refused { s with ports := { s.ports with bus := none } })) ∧
    (s.ports.rst = false → s.ports.bus = none → s.ports.msTick = true →
      step s = exec .msTick { s with ports := { s.ports with msTick := false } }) ∧
    (s.ports.rst = false → s.ports.bus = none → s.ports.msTick = false → s.ports.timTick = true →
      step s = exec .timTick { s with ports := { s.ports with timTick := false } }) ∧
    (s.ports.rst = true →
      step s = exec .reset { s with ports := { s.ports with rst := false, bus := none, msTick := false, timTick := false } }) ∧
    (s.ports.rst = false → s.ports.bus = none → s.ports.msTick = false → s.ports.timTick = false →
      (∀ p rest, s.coming = p :: rest → step s = .next { s with ports := p, coming := rest }) ∧
      (s.coming = [] → step s = .next s))

/-- R8 (that coincident events take successive steps is the model's reading, log 9): coincident events run in the order
BUS, MS_TICK, TIM_TICK; RESET discards the others; a SET_DUTY that coincides with a frame start is seen by that frame.
-/
def Obligations.CoincidentEventsRunInOrder : Prop :=
  (∀ (s : State) (t : BusWord), s.ports.rst = false → s.ports.bus = some t → s.ports.msTick = true →
    s.ports.timTick = true →
    ∃ a b c, busEvent t { s with ports := { s.ports with bus := none } } = .next a ∧
      exec .msTick { a with ports := { s.ports with bus := none, msTick := false } } = .next b ∧
      exec .timTick { b with ports := { s.ports with bus := none, msTick := false, timTick := false } } = .next c ∧
      Sys2Proof.core.run 3 s = .next c) ∧
  (∀ s : State, s.ports.rst = true → ∃ u, exec .reset s = .next u ∧
    step s = .next { u with ports := { s.ports with rst := false, bus := none, msTick := false, timTick := false } }) ∧
  (∀ (s : State) (t : BusWord) (n : Chan) (w : Word), s.ports.rst = false → s.ports.bus = some t →
    decode t = .ok (.setDuty n w) → s.ports.msTick = false → s.ports.timTick = true → Open s n → FrameEnds s →
    ∃ c, Sys2Proof.core.run 2 s = .next c ∧
      (c.dutyActive[n.val].toNat : Int) = max 0 (min w.toInt s.maxDuty.toNat))

/-- R187, R9: every event of every kind completes in every state, and a BUS event always returns a response. -/
def Obligations.EveryEventCompletes : Prop :=
  (∀ i s, ∃ t, exec i s = .next t) ∧ (∀ s, SafeStep s) ∧
  (∀ t s, ∃ u r, busEvent t s = .next u ∧ u.resp = some r)

/-- The model's choice (log 1, log 4, log 15): no instruction touches the input ports, the cycles to come or the divider
parameter. -/
def Obligations.InstructionsKeepEnvironment : Prop :=
  ∀ i s t, exec i s = .next t → t.ports = s.ports ∧ t.coming = s.coming ∧ t.dividers = s.dividers

/-- R50: no operation but CONFIGURE depends on `clk_valid` or `timclk_hz`. -/
def Obligations.OnlyConfigureReadsClockPorts : Prop :=
  ∀ i s t (v : Bool) (hz : Word), (∀ h r, i ≠ .configure h r) → exec i s = .next t →
    exec i { s with ports := { s.ports with clkValid := v, timclkHz := hz } } =
      .next { t with ports := { t.ports with clkValid := v, timclkHz := hz } }

/-! ## Reads -/

/-- R105, R115 to R120: the driver's reads, always accepted, each with its encoding and its value; what they return
before a CONFIGURE succeeds and before a fatal error. -/
def Obligations.DriverReadsReturnTheirWords : Prop :=
  (encode .rdConfig = wordOf 0 0x00 0 ∧ encode .resolution = wordOf 0 0x04 0 ∧ encode .rdStatus = wordOf 0 0x08 0 ∧
    encode .rdFault = wordOf 0 0x0C 0 ∧ encode .rdFaultInfo = wordOf 0 0x10 0 ∧ encode .rdWarn = wordOf 0 0x14 0 ∧
    encode .rdPscDiv = wordOf 0 0x18 0) ∧
  ∀ s : State,
    Answers .rdConfig s (s.alloc.toNat * 65536 + s.carrierHz.toNat) ∧
    Answers .resolution s s.maxDuty.toNat ∧
    Answers .rdStatus s ((s.faultHwinit || s.faultInvalidStep).toNat * 16 + s.seqState.code.toNat * 4
      + s.drvState.code.toNat) ∧
    Answers .rdFault s (s.faultUsage.toNat * 4 + s.faultInvalidStep.toNat * 2 + s.faultHwinit.toNat) ∧
    Answers .rdFaultInfo s (s.faultStep.toNat * 256 + s.faultCur.val * 16 + s.faultCause.toNat) ∧
    Answers .rdWarn s (s.warnSat[1].toNat * 2 + s.warnSat[0].toNat) ∧
    Answers .rdPscDiv s s.pscDiv.toNat ∧
    (Invariants s → s.drvState ≠ .configured → Answers .rdConfig s 0 ∧ Answers .resolution s 0 ∧ Answers .rdPscDiv s 0) ∧
    (Invariants s → s.faultHwinit = false → s.faultInvalidStep = false → Answers .rdFaultInfo s 0) ∧
    (Invariants s → s.drvState = .configured → s.maxDuty ≠ 0) ∧
    (∀ i t, s.drvState = .configured → i ≠ .reset → exec i s = .next t → t.maxDuty = s.maxDuty)

/-- R109, R112: the channel reads; an unallocated channel reads disabled; `duty_active` cannot be read. -/
def Obligations.ChannelReadsReturnTheirWords : Prop :=
  ∀ (s : State) (n : Chan),
    encode (.rdEn n) = wordOf 0 (0x20 + 0x10 * n.val) 0 ∧ encode (.rdDuty n) = wordOf 0 (0x24 + 0x10 * n.val) 0 ∧
    Answers (.rdEn n) s s.enabled[n.val].toNat ∧
    Answers (.rdDuty n) s s.dutyValue[n.val].toNat ∧
    (Invariants s → s.drvState ≠ .configured ∨ s.alloc.getLsbD n.val = false → Answers (.rdEn n) s 0) ∧
    (∀ a v u u', hostRead a s = .next u → hostRead a { s with dutyActive := v } = .next u' → u'.resp = u.resp)

/-- R132, R134, R138, R139, R140, R143: the sequencer's reads, always accepted, each with its encoding and its value. -/
def Obligations.SequencerReadsReturnTheirWords : Prop :=
  ∀ (s : State) (k : CurNum) (i : StepIdx),
    (encode .rdSeqStart = wordOf 0 0x1C 0 ∧ encode (.rdCursor k) = wordOf 0 (0x40 + 0x10 * k.val) 0 ∧
      encode (.rdPos k) = wordOf 0 (0x44 + 0x10 * k.val) 0 ∧ encode (.rdHold k) = wordOf 0 (0x48 + 0x10 * k.val) 0 ∧
      encode (.rdStepFrac i) = wordOf 0 (0x80 + 8 * i.val) 0 ∧
      encode (.rdStepHold i) = wordOf 0 (0x84 + 8 * i.val) 0) ∧
    Answers .rdSeqStart s (s.running[1].toNat * 2 + s.running[0].toNat) ∧
    Answers (.rdCursor k) s (s.curChm[k.val].toNat * 2 ^ 24 + s.curStart[k.val].toNat * 2 ^ 16
      + s.curLen[k.val].toNat * 2 ^ 8 + s.curBase[k.val].toNat) ∧
    Answers (.rdPos k) s (s.running[k.val].toNat * 256 + s.idx[k.val].toNat) ∧
    Answers (.rdHold k) s s.holdRem[k.val].toNat ∧
    Answers (.rdStepFrac i) s s.stepFrac[i.val].toNat ∧
    Answers (.rdStepHold i) s s.stepHold[i.val].toNat ∧
    (Invariants s → s.running[k.val] = true → s.holdRem[k.val] ≠ 0) ∧
    (∀ j t, exec j s = .next t → (∀ m, j ≠ .seqStart m) → j ≠ .msTick → j ≠ .reset → posWord t k = posWord s k) ∧
    (Answers (.rdStepFrac i) State.reset 0 ∧ Answers (.rdStepHold i) State.reset 0)

/-- R67: an accepted read changes nothing but the response and may be repeated; a refused read sets `FAULT.usage` only.
-/
def Obligations.HostReadsHaveNoSideEffect : Prop :=
  ∀ (a : Offset) (s : State),
    (∀ w, memWord s a = some w →
      hostRead a s = .next { s with resp := some ⟨w, false⟩ } ∧
      hostRead a { s with resp := some ⟨w, false⟩ } = .next { s with resp := some ⟨w, false⟩ }) ∧
    (memWord s a = none → hostRead a s = .next (refused s))

/-! ## The driver -/

/-- R100: CONFIGURE, its encoding, its refusal, its three causes in their order, and what it writes. -/
def Obligations.ConfigureOutcome : Prop :=
  ∀ (hz : BitVec 16) (req : Set2) (s : State),
    encode (.configure hz req) = wordOf 1 0x00 (req.toNat * 65536 + hz.toNat) ∧
    (s.drvState ≠ .unconfigured ∨ hz = 0 ∨ req = 0 → exec (.configure hz req) s = .next (refused s)) ∧
    (s.drvState = .unconfigured → hz ≠ 0 → req ≠ 0 →
      (s.ports.clkValid = false → exec (.configure hz req) s = .next (hwInitFailed 1 s)) ∧
      (s.ports.clkValid = true → hz ≠ 50 → exec (.configure hz req) s = .next (hwInitFailed 2 s)) ∧
      (s.ports.clkValid = true → hz = 50 → deriveDividers s.dividers s.ports.timclkHz hz = none →
        exec (.configure hz req) s = .next (hwInitFailed 3 s)) ∧
      (s.ports.clkValid = true → hz = 50 → s.ports.timclkHz = 0 →
        exec (.configure hz req) s = .next (hwInitFailed 3 s)) ∧
      (∀ p m, s.ports.clkValid = true → hz = 50 → deriveDividers s.dividers s.ports.timclkHz hz = some (p, m) →
        exec (.configure hz req) s = .next { s with
          carrierHz := 50, alloc := req, pscDiv := BitVec.ofNat 17 p, maxDuty := BitVec.ofNat 17 m, pscCnt := 0,
          cnt := 0, dutyActive := #v[0, 0], drvState := .configured, resp := some ⟨0, false⟩ }))

/-- R101: CONFIGURE is accepted at most once between resets, and only RESET returns the block to Unconfigured. -/
def Obligations.ConfigureAcceptedOnce : Prop :=
  ∀ s : State, s.drvState ≠ .unconfigured →
    (∀ hz req, exec (.configure hz req) s = .next (refused s)) ∧
    (∀ i t, i ≠ .reset → exec i s = .next t → t.drvState ≠ .unconfigured) ∧
    (∃ t, exec .reset s = .next t ∧ t.drvState = .unconfigured)

/-- R102: the contract of `derive_dividers`, for every instance the parameter can be, and its consequence for the frame.
-/
def Obligations.DividerPairsAreExact : Prop :=
  (∀ table t hz p m, deriveDividers table t hz = some (p, m) →
    1 ≤ p ∧ p ≤ 65536 ∧ 1 ≤ m ∧ m ≤ 65536 ∧ p * m * hz.toNat = t.toNat) ∧
  (∀ table t (hz : BitVec 16), (∀ p m, 1 ≤ p → p ≤ 65536 → 1 ≤ m → m ≤ 65536 → p * m * hz.toNat ≠ t.toNat) →
    deriveDividers table t hz = none) ∧
  (∀ hz req s t, exec (.configure hz req) s = .next t → s.drvState = .unconfigured → t.drvState = .configured →
    t.pscDiv.toNat * t.maxDuty.toNat * 50 = s.ports.timclkHz.toNat)

/-- R103: the default instance answers the smallest prescaler that fits, and the values the rule lists. (That the
parameter is a table of departures, and that the empty table is the default instance, is the model's choice: log 4.) -/
def Obligations.DefaultDividersTakeSmallestPrescaler : Prop :=
  (∀ t hz p m, defaultDividers t hz = some (p, m) ↔
    hz ≠ 0 ∧ t % hz = 0 ∧ t / hz ≠ 0 ∧ 1 ≤ p ∧ p ≤ 65536 ∧ t / hz % p = 0 ∧ m = t / hz / p ∧ m ≤ 65536 ∧
      ∀ q, 1 ≤ q → q < p → ¬ (t / hz % q = 0 ∧ t / hz / q ≤ 65536)) ∧
  (∀ t hz, deriveDividers [] t hz = defaultDividers t.toNat hz.toNat) ∧
  defaultDividers 100000 50 = some (1, 2000) ∧ defaultDividers 1000000 50 = some (1, 20000) ∧
  defaultDividers 3276800 50 = some (1, 65536) ∧ defaultDividers 200000000 50 = some (64, 62500) ∧
  defaultDividers 100000020 50 = none ∧ defaultDividers 3276850 50 = none ∧ defaultDividers 0 50 = none

/-- R22, R24: the timer configuration is set once and immutable until RESET. -/
def Obligations.TimerConfigurationIsImmutable : Prop :=
  ∀ i s t, exec i s = .next t → s.drvState = .configured → i ≠ .reset →
    t.drvState = .configured ∧ t.carrierHz = s.carrierHz ∧ t.alloc = s.alloc ∧ t.pscDiv = s.pscDiv
      ∧ t.maxDuty = s.maxDuty

/-- R106: ENABLE, its encoding, its refusal, its effect, its idempotence, and the gate that opens at once. -/
def Obligations.EnableOutcome : Prop :=
  ∀ (n : Chan) (s : State),
    (∀ d : Word, d.getLsbD 0 = true →
      decode (busWord true (BitVec.ofNat 8 (0x20 + 0x10 * n.val)) d) = .ok (.enable n)) ∧
    (¬ Open s n → exec (.enable n) s = .next (refused s)) ∧
    (Open s n → ∃ t, exec (.enable n) s = .next t ∧
      t = { s with enabled := s.enabled.set n true, resp := some ⟨0, false⟩ } ∧ exec (.enable n) t = .next t ∧
      (pwmOut t n = true ↔ s.cnt.toNat < s.dutyActive[n.val].toNat))

/-- R107: DISABLE, its encoding, its refusal, its effect, its idempotence, and the output that falls at once. -/
def Obligations.DisableOutcome : Prop :=
  ∀ (n : Chan) (s : State),
    (∀ d : Word, d.getLsbD 0 = false →
      decode (busWord true (BitVec.ofNat 8 (0x20 + 0x10 * n.val)) d) = .ok (.disable n)) ∧
    (¬ Open s n → exec (.disable n) s = .next (refused s)) ∧
    (Open s n → ∃ t, exec (.disable n) s = .next t ∧
      t = { s with enabled := s.enabled.set n false, resp := some ⟨0, false⟩ } ∧ exec (.disable n) t = .next t ∧
      pwmOut t n = false)

/-- R110, R174: a duty write stores the clamp of its operand, never a wrapped value, and warns exactly when it clamps.
-/
def Obligations.DutyWriteClampsAndWarns : Prop :=
  ∀ (n : Chan) (v : Int) (s : State),
    drvSetDuty n v s = clampedWrite n v s ∧
    ((drvSetDuty n v s).dutyValue[n.val].toNat : Int) = max 0 (min v s.maxDuty.toNat) ∧
    (∀ w : Word, Open s n → ∃ t, exec (.setDuty n w) s = .next t ∧ t.resp = some ⟨0, false⟩ ∧ fatal t = fatal s ∧
      t.faultUsage = s.faultUsage)

/-- R108: SET_DUTY, its encoding, its refusal and its effect; the operand is signed. -/
def Obligations.SetDutyOutcome : Prop :=
  ∀ (n : Chan) (w : Word) (s : State),
    encode (.setDuty n w) = wordOf 1 (0x24 + 0x10 * n.val) w.toNat ∧
    (¬ Open s n → exec (.setDuty n w) s = .next (refused s)) ∧
    (Open s n → exec (.setDuty n w) s = .next (acked (clampedWrite n w.toInt s)))

/-- R111: SET_DUTY_FRAC, its encoding, its refusal and its effect: the rounded product, clamped above only. -/
def Obligations.SetDutyFracOutcome : Prop :=
  ∀ (n : Chan) (f : Word) (s : State),
    encode (.setDutyFrac n f) = wordOf 1 (0x28 + 0x10 * n.val) f.toNat ∧
    (¬ Open s n → exec (.setDutyFrac n f) s = .next (refused s)) ∧
    (Open s n → exec (.setDutyFrac n f) s =
      .next (acked (clampedWrite n (((f.toNat * s.maxDuty.toNat + 32768) / 65536 : Nat) : Int) s))) ∧
    (Open s n → f.toNat ≤ 65536 → ∃ t, exec (.setDutyFrac n f) s = .next t ∧ t.warnSat = s.warnSat ∧ t.log = s.log)

/-- R113: the fraction mapper and its five laws (which the spec marks "derived: from the definition"), with the values
the rule lists. -/
def Obligations.FractionMapperLaws : Prop :=
  (∀ f m : Nat, fracToDuty f m = (f * m + 32768) / 65536) ∧
  (∀ f m : Nat, f < 2 ^ 32 → m ≤ 2 ^ 16 → f * m + 32768 < 2 ^ 49 ∧ fracToDuty f m < 2 ^ 33) ∧
  (∀ m, fracToDuty 0 m = 0 ∧ fracToDuty 65536 m = m) ∧
  (∀ f₁ f₂ m, f₁ ≤ f₂ → fracToDuty f₁ m ≤ fracToDuty f₂ m) ∧
  (∀ f m : Nat, -(1 / 2 : ℚ) < (fracToDuty f m : ℚ) - (f : ℚ) * m / 65536 ∧
    (fracToDuty f m : ℚ) - (f : ℚ) * m / 65536 ≤ 1 / 2) ∧
  (∀ f m, f ≤ 65536 → fracToDuty f m ≤ m) ∧
  (∀ f m, fracToDuty f m = f * m / 65536 + if 32768 ≤ f * m % 65536 then 1 else 0) ∧
  (fracToDuty 1638 2000 = 50 ∧ fracToDuty 4915 2000 = 150 ∧ fracToDuty 32768 2000 = 1000 ∧
    fracToDuty 2048 2000 = 63 ∧ fracToDuty 16 2000 = 0 ∧ fracToDuty 17 2000 = 1 ∧ fracToDuty 65535 2000 = 2000)

/-- R121, which the spec marks as derived: round-trip accuracy, against the encoded fraction and against the decimal
fraction a program means. -/
def Obligations.RoundTripAccuracy : Prop :=
  (∀ f m : Nat, f ≤ 65536 → 1 ≤ m →
    |(fracToDuty f m : ℚ) - (f : ℚ) / 65536 * m| ≤ 1 / 2 ∧
    |(fracToDuty f m : ℚ) / m - (f : ℚ) / 65536| ≤ 1 / (2 * m)) ∧
  (∀ num den m : Nat, 1 ≤ den → num ≤ den → 1 ≤ m → m ≤ 65536 →
    |(fracLiteral num den : ℚ) / 65536 - (num : ℚ) / den| ≤ 1 / 131072 ∧
    |(fracToDuty (fracLiteral num den) m : ℚ) - (num : ℚ) / den * m| < 1)

/-! ## The sequencer's registers -/

/-- R130, R131: the step-table writes, their encodings, their lock and their effect. -/
def Obligations.StepTableWriteOutcome : Prop :=
  ∀ (i : StepIdx) (w : Word) (s : State),
    encode (.wrStepFrac i w) = wordOf 1 (0x80 + 8 * i.val) w.toNat ∧
    encode (.wrStepHold i w) = wordOf 1 (0x84 + 8 * i.val) w.toNat ∧
    (s.seqState ≠ .idle → exec (.wrStepFrac i w) s = .next (refused s) ∧ exec (.wrStepHold i w) s = .next (refused s)) ∧
    (s.seqState = .idle →
      exec (.wrStepFrac i w) s = .next { s with stepFrac := s.stepFrac.set i w, resp := some ⟨0, false⟩ } ∧
      exec (.wrStepHold i w) s = .next { s with stepHold := s.stepHold.set i w, resp := some ⟨0, false⟩ })

/-- R133: WR_CURSOR, its encoding, its lock and its effect. -/
def Obligations.CursorWriteOutcome : Prop :=
  ∀ (k : CurNum) (base len start : BitVec 8) (chm : Set2) (s : State),
    encode (.wrCursor k base len start chm) =
      wordOf 1 (0x40 + 0x10 * k.val) (chm.toNat * 2 ^ 24 + start.toNat * 2 ^ 16 + len.toNat * 2 ^ 8 + base.toNat) ∧
    (s.seqState ≠ .idle → exec (.wrCursor k base len start chm) s = .next (refused s)) ∧
    (s.seqState = .idle → exec (.wrCursor k base len start chm) s = .next { s with
      curBase := s.curBase.set k base, curLen := s.curLen.set k len, curStart := s.curStart.set k start,
      curChm := s.curChm.set k chm, resp := some ⟨0, false⟩ })

/-- R41, R60, R81: an accepted WR_STEP_FRAC, WR_STEP_HOLD, WR_CURSOR, ENABLE, DISABLE, SET_DUTY or SET_DUTY_FRAC changes
the word of one register (CHn_DUTY for both duty writes, which may change WARN too) and the word at no other offset of the
register space; a table word reads back as written. (CONFIGURE and SEQ_START change several words: ConfigureOutcome and
SeqStartOutcome.) -/
def Obligations.WritesChangeOneOffset : Prop :=
  ∀ s t : State,
    (∀ i w, s.seqState = .idle → exec (.wrStepFrac i w) s = .next t →
      memWord t (Reg.stepFrac i).offset = some w ∧
      ∀ a, a ≠ (Reg.stepFrac i).offset → memWord t a = memWord s a) ∧
    (∀ i w, s.seqState = .idle → exec (.wrStepHold i w) s = .next t →
      memWord t (Reg.stepHold i).offset = some w ∧
      ∀ a, a ≠ (Reg.stepHold i).offset → memWord t a = memWord s a) ∧
    (∀ k b l st c, s.seqState = .idle → exec (.wrCursor k b l st c) s = .next t →
      ∀ a, a ≠ (Reg.curSeq k).offset → memWord t a = memWord s a) ∧
    (∀ n, Open s n → (exec (.enable n) s = .next t ∨ exec (.disable n) s = .next t) →
      ∀ a, a ≠ (Reg.chEn n).offset → memWord t a = memWord s a) ∧
    (∀ n w, Open s n → (exec (.setDuty n w) s = .next t ∨ exec (.setDutyFrac n w) s = .next t) →
      ∀ a, a ≠ (Reg.chDuty n).offset → a ≠ Reg.warn.offset → memWord t a = memWord s a)

/-! ## Starting the sequencer -/

/-- R136: validation passes exactly when every selected cursor passes every check, and otherwise names the first check
that fails: cursor 0 before cursor 1, the four configuration checks in order, then the entries in table order. -/
def Obligations.ValidationFindsFirstFailure : Prop :=
  ∀ (s : State) (sel : Set2),
    (validate s sel = none ↔ ∀ k : CurNum, sel.getLsbD k.val = true → CursorValid s k) ∧
    (∀ e, validate s sel = some e ↔
      FirstFailureOf s e ∧ sel.getLsbD e.cursor.val = true ∧
      (e.cursor = 1 → sel.getLsbD 0 = true → CursorValid s 0))

/-- R135: SEQ_START, its encoding, its refusal, its failure, and everything a successful start leaves. -/
def Obligations.SeqStartOutcome : Prop :=
  ∀ (sel : Set2) (s : State),
    encode (.seqStart sel) = wordOf 1 0x1C sel.toNat ∧
    (s.drvState ≠ .configured ∨ s.seqState ≠ .idle ∨ sel = 0 → exec (.seqStart sel) s = .next (refused s)) ∧
    (s.drvState = .configured → s.seqState = .idle → sel ≠ 0 →
      (∀ e, validate s sel = some e →
        exec (.seqStart sel) s = .next (stepInvalid e.code e.cursor (BitVec.ofNat 8 e.entry) s)) ∧
      (validate s sel = none → ∃ t, exec (.seqStart sel) s = .next t ∧
        t = { s with
          seqMaxDuty := s.maxDuty, seqState := .running, idx := t.idx, running := t.running, holdRem := t.holdRem,
          dutyValue := t.dutyValue, log := t.log, resp := some ⟨0, false⟩ } ∧
        (∀ k : CurNum, sel.getLsbD k.val = true →
          t.idx[k.val] = s.curStart[k.val] ∧ t.running[k.val] = true ∧
          t.holdRem[k.val] = tableHold s (s.curBase[k.val].toNat + s.curStart[k.val].toNat)) ∧
        (∀ k : CurNum, sel.getLsbD k.val = false →
          t.idx[k.val] = s.idx[k.val] ∧ t.running[k.val] = s.running[k.val] ∧ t.holdRem[k.val] = s.holdRem[k.val]) ∧
        (∀ n : Chan, t.dutyValue[n.val].toNat =
          if sel.getLsbD 1 ∧ s.curChm[1].getLsbD n.val then stepDuty s 1 s.curStart[1].toNat
          else if sel.getLsbD 0 ∧ s.curChm[0].getLsbD n.val then stepDuty s 0 s.curStart[0].toNat
          else s.dutyValue[n.val].toNat) ∧
        t.log = s.log ++ (if sel.getLsbD 0 then stepRecords s 0 s.curStart[0].toNat else [])
          ++ (if sel.getLsbD 1 then stepRecords s 1 s.curStart[1].toNat else [])))

/-- R137: apply writes the current step's duty, through the driver's clamp, to each of the cursor's channels in
ascending order, and records each write; it does not test `enabled`; under the invariants the clamp never acts (a
clause that the rule itself marks as derived). -/
def Obligations.ApplyWritesTheCursorsChannels : Prop :=
  ∀ (k : CurNum) (s : State) (f : Word) (v : Nat), f = tableFrac s (s.curBase[k.val].toNat + s.idx[k.val].toNat) →
    v = (f.toNat * s.seqMaxDuty.toNat + 32768) / 65536 →
    applyStep k s = appliedTo k f v 1 (appliedTo k f v 0 s) ∧
    (Invariants s → s.running[k.val] = true → v ≤ s.maxDuty.toNat ∧ (applyStep k s).warnSat = s.warnSat)

/-! ## The ticks -/

/-- R150: TIM_TICK: nothing unless configured; else a prescaler count, a counter step or a frame start. (The two premises
are the legal values of R20: with them every sum fits its register, R114.) -/
def Obligations.TimTickOutcome : Prop :=
  ∀ s : State, s.pscDiv.toNat ≤ 65536 → s.maxDuty.toNat ≤ 65536 →
    (s.drvState ≠ .configured → exec .timTick s = .next s) ∧
    (s.drvState = .configured → (s.pscCnt.toNat : Int) < s.pscDiv.toNat - 1 →
      exec .timTick s = .next { s with pscCnt := BitVec.ofNat 16 (s.pscCnt.toNat + 1) }) ∧
    (s.drvState = .configured → ¬ (s.pscCnt.toNat : Int) < s.pscDiv.toNat - 1 →
      (s.cnt.toNat : Int) < s.maxDuty.toNat - 1 →
      exec .timTick s = .next { s with pscCnt := 0, cnt := BitVec.ofNat 16 (s.cnt.toNat + 1) }) ∧
    (s.drvState = .configured → ¬ (s.pscCnt.toNat : Int) < s.pscDiv.toNat - 1 →
      ¬ (s.cnt.toNat : Int) < s.maxDuty.toNat - 1 →
      exec .timTick s = .next { s with pscCnt := 0, cnt := 0, dutyActive := s.dutyValue })

/-- R152, over TIM_TICKs in a row: one full cycle of the counter is a frame of `psc_div * max_duty` TIM_TICKs; inside it
the counters are the quotient and the remainder of the ticks since the frame start, and nothing else changes. -/
def Obligations.FrameIsPscTimesMaxTicks : Prop :=
  ∀ s : State, Invariants s → s.drvState = .configured → s.cnt = 0 → s.pscCnt = 0 →
    (∀ j, j < s.pscDiv.toNat * s.maxDuty.toNat →
      timTicks j s = { s with cnt := BitVec.ofNat 16 (j / s.pscDiv.toNat), pscCnt := BitVec.ofNat 16 (j % s.pscDiv.toNat) }) ∧
    timTicks (s.pscDiv.toNat * s.maxDuty.toNat) s = { s with dutyActive := s.dutyValue }

/-- R154, which the spec marks as derived, over frames that no other event interrupts: in the frame that starts at `s`
an enabled channel is high for exactly the first `duty_active * psc_div` timer clock cycles: never for 0, always for
`max_duty`. -/
def Obligations.PulseIsDutyTicksWide : Prop :=
  ∀ (s : State) (n : Chan), Invariants s → s.drvState = .configured → s.enabled[n.val] = true → s.cnt = 0 → s.pscCnt = 0 →
    (∀ j, j < s.pscDiv.toNat * s.maxDuty.toNat →
      (pwmOut (timTicks j s) n = true ↔ j < s.dutyActive[n.val].toNat * s.pscDiv.toNat)) ∧
    (s.dutyActive[n.val] = 0 → ∀ j, j < s.pscDiv.toNat * s.maxDuty.toNat → pwmOut (timTicks j s) n = false) ∧
    (s.dutyActive[n.val] = s.maxDuty → ∀ j, j < s.pscDiv.toNat * s.maxDuty.toNat → pwmOut (timTicks j s) n = true)

/-- R153: the active duty registers change at a frame start, where both take the preload values together, and in
CONFIGURE and RESET, which clear them; no other event writes them. -/
def Obligations.ActiveDutyChangesAtFrameStartOnly : Prop :=
  (∀ s t : State, FrameEnds s → exec .timTick s = .next t → t.dutyActive = s.dutyValue ∧ t.cnt = 0) ∧
  (∀ i s t, exec i s = .next t → t.dutyActive ≠ s.dutyActive →
    (i = .timTick ∧ FrameEnds s ∧ t.dutyActive = s.dutyValue) ∨
    ((i = .reset ∨ ∃ hz req, i = .configure hz req) ∧ t.dutyActive = #v[0, 0]))

/-- R156 to R160: MS_TICK under the invariants. Each running cursor loses one millisecond; in the one that ends its hold
it advances circularly, applies the new step to its channels and reloads; cursor 0's writes and records come first;
nothing else changes and nothing is warned of. -/
def Obligations.MsTickOutcome : Prop :=
  ∀ s : State, Invariants s →
    (s.seqState ≠ .running → exec .msTick s = .next s) ∧
    (s.seqState = .running → ∃ t, exec .msTick s = .next t ∧
      t = { s with idx := t.idx, holdRem := t.holdRem, dutyValue := t.dutyValue, log := t.log } ∧
      (∀ k : CurNum, s.running[k.val] = false → t.idx[k.val] = s.idx[k.val] ∧ t.holdRem[k.val] = s.holdRem[k.val]) ∧
      (∀ k : CurNum, s.running[k.val] = true → s.holdRem[k.val] ≠ 1 →
        t.idx[k.val] = s.idx[k.val] ∧ t.holdRem[k.val].toNat + 1 = s.holdRem[k.val].toNat) ∧
      (∀ k : CurNum, Due s k →
        t.idx[k.val].toNat = nextIdx s k ∧ t.holdRem[k.val].toNat = stepHoldOf s k (nextIdx s k)) ∧
      (∀ n : Chan,
        (Due s 1 ∧ s.curChm[1].getLsbD n.val = true → t.dutyValue[n.val].toNat = stepDuty s 1 (nextIdx s 1)) ∧
        (¬ (Due s 1 ∧ s.curChm[1].getLsbD n.val = true) → Due s 0 ∧ s.curChm[0].getLsbD n.val = true →
          t.dutyValue[n.val].toNat = stepDuty s 0 (nextIdx s 0)) ∧
        (¬ (Due s 1 ∧ s.curChm[1].getLsbD n.val = true) → ¬ (Due s 0 ∧ s.curChm[0].getLsbD n.val = true) →
          t.dutyValue[n.val] = s.dutyValue[n.val])) ∧
      ∃ l₀ l₁, t.log = s.log ++ l₀ ++ l₁ ∧
        (Due s 0 → l₀ = stepRecords s 0 (nextIdx s 0)) ∧ (¬ Due s 0 → l₀ = []) ∧
        (Due s 1 → l₁ = stepRecords s 1 (nextIdx s 1)) ∧ (¬ Due s 1 → l₁ = []))

/-- R142, which the spec marks as derived: what MS_TICK and SEQ_START do to one cursor's position, hold and running bit
does not depend on the other's. -/
def Obligations.CursorsAreIndependent : Prop :=
  ∀ (s s' : State) (k j : CurNum) (x : BitVec 8) (h : Word) (r : Bool), j ≠ k →
    s' = { s with idx := s.idx.set j x, holdRem := s.holdRem.set j h, running := s.running.set j r } →
    ∀ i, (i = .msTick ∨ ∃ sel, i = .seqStart sel) → ∀ t t', exec i s = .next t → exec i s' = .next t' →
      t'.idx[k.val] = t.idx[k.val] ∧ t'.holdRem[k.val] = t.holdRem[k.val] ∧ t'.running[k.val] = t.running[k.val]

/-- R161, which the spec marks as derived, over MS_TICKs in a row: a hold of h milliseconds lasts exactly h MS_TICKs:
the offset does not change before, and the h-th applies the next step and loads its hold. -/
def Obligations.HoldLastsExactly : Prop :=
  ∀ (s : State) (k : CurNum), Invariants s → s.running[k.val] = true →
    (∀ j, j < s.holdRem[k.val].toNat →
      (msTicks j s).idx[k.val] = s.idx[k.val] ∧
      (msTicks j s).holdRem[k.val].toNat + j = s.holdRem[k.val].toNat) ∧
    (msTicks s.holdRem[k.val].toNat s).idx[k.val].toNat = nextIdx s k ∧
    (msTicks s.holdRem[k.val].toNat s).holdRem[k.val].toNat = stepHoldOf s k (nextIdx s k)

/-- R162, which the spec marks as derived, over MS_TICKs in a row: a running cursor visits the steps in order and wraps
circularly for ever, no step skipped or repeated: from its j-th advance until the next it stands at offset `(idx + j)
mod len`. Two running cursors over one range, with equal holds throughout and equally far into them, keep the distance
between their offsets, modulo the length, at every millisecond. -/
def Obligations.SequenceRunsCircularly : Prop :=
  (∀ (s : State) (k : CurNum), Invariants s → s.running[k.val] = true →
    ∀ j n, ticksToAdvance s k j ≤ n → n < ticksToAdvance s k (j + 1) →
      (msTicks n s).idx[k.val].toNat = (s.idx[k.val].toNat + j) % s.curLen[k.val].toNat) ∧
  (∀ s : State, Invariants s → s.running[0] = true → s.running[1] = true →
    s.curBase[0] = s.curBase[1] → s.curLen[0] = s.curLen[1] → s.holdRem[0] = s.holdRem[1] →
    (∀ j, j < s.curLen[0].toNat → stepHoldOf s 0 j = stepHoldOf s 0 0) →
    ∀ n, ((msTicks n s).idx[1].toNat + s.idx[0].toNat) % s.curLen[0].toNat =
      ((msTicks n s).idx[0].toNat + s.idx[1].toNat) % s.curLen[0].toNat)

/-! ## Reset, errors and whole-machine rules -/

/-- R53, R200, R202: after RESET every element of R20 is zero, `log` is empty and the outputs are low. -/
def Obligations.ResetZeroesEverything : Prop :=
  ∀ s : State, ∃ t, exec .reset s = .next t ∧
    t.drvState = .unconfigured ∧ t.carrierHz = 0 ∧ t.alloc = 0 ∧ t.pscDiv = 0 ∧ t.maxDuty = 0 ∧ t.pscCnt = 0 ∧
    t.cnt = 0 ∧ t.faultHwinit = false ∧ t.faultInvalidStep = false ∧ t.faultUsage = false ∧ t.faultCause = 0 ∧
    t.faultCur = 0 ∧ t.faultStep = 0 ∧ t.seqState = .idle ∧ t.seqMaxDuty = 0 ∧ t.log = [] ∧
    (∀ n : Chan, t.enabled[n.val] = false ∧ t.dutyValue[n.val] = 0 ∧ t.dutyActive[n.val] = 0 ∧
      t.warnSat[n.val] = false ∧ pwmOut t n = false) ∧
    (∀ i : StepIdx, t.stepFrac[i.val] = 0 ∧ t.stepHold[i.val] = 0) ∧
    (∀ k : CurNum, t.curBase[k.val] = 0 ∧ t.curLen[k.val] = 0 ∧ t.curStart[k.val] = 0 ∧ t.curChm[k.val] = 0 ∧
      t.idx[k.val] = 0 ∧ t.running[k.val] = false ∧ t.holdRem[k.val] = 0) ∧
    fatal t = false

/-- R172: what raising a HardwareInitError writes, and that it is final. In InitFailed the timer never runs, the outputs
are low, `fatal` is 1, the listed operations are refused, and only RESET leaves. -/
def Obligations.InitFailedIsFinal : Prop :=
  (∀ (e : FatalError) (s : State), e.isHardwareInit = true → raise e s = hwInitFailed e.code s) ∧
  ∀ s : State, Invariants s → s.drvState = .initFailed →
    fatal s = true ∧ (∀ n : Chan, pwmOut s n = false) ∧ exec .timTick s = .next s ∧
    (∀ hz req, exec (.configure hz req) s = .next (refused s)) ∧
    (∀ n w, exec (.enable n) s = .next (refused s) ∧ exec (.disable n) s = .next (refused s) ∧
      exec (.setDuty n w) s = .next (refused s) ∧ exec (.setDutyFrac n w) s = .next (refused s)) ∧
    (∀ sel, exec (.seqStart sel) s = .next (refused s)) ∧
    (∀ i t, i ≠ .reset → exec i s = .next t → t.drvState = .initFailed ∧ t.maxDuty = 0 ∧ t.alloc = 0 ∧ t.carrierHz = 0)

/-- R173: what raising an InvalidStepError writes, and that it is final for the sequencer and leaves the driver working.
-/
def Obligations.SequencerFatalIsFinal : Prop :=
  (∀ (e : FatalError) (s : State), e.isHardwareInit = false →
    raise e s = stepInvalid e.code e.cursor (BitVec.ofNat 8 e.entry) s) ∧
  ∀ s : State, Invariants s → s.seqState = .fatal →
    fatal s = true ∧ s.drvState = .configured ∧ (∀ k : CurNum, s.running[k.val] = false) ∧ exec .msTick s = .next s ∧
    (∀ sel, exec (.seqStart sel) s = .next (refused s)) ∧
    (∀ i w, exec (.wrStepFrac i w) s = .next (refused s) ∧ exec (.wrStepHold i w) s = .next (refused s)) ∧
    (∀ k b l st c, exec (.wrCursor k b l st c) s = .next (refused s)) ∧
    (∀ n w, Open s n → exec (.setDuty n w) s = .next (acked (clampedWrite n w.toInt s)) ∧
      exec (.setDutyFrac n w) s =
        .next (acked (clampedWrite n (((w.toNat * s.maxDuty.toNat + 32768) / 65536 : Nat) : Int) s)) ∧
      exec (.enable n) s = .next { s with enabled := s.enabled.set n true, resp := some ⟨0, false⟩ } ∧
      exec (.disable n) s = .next { s with enabled := s.enabled.set n false, resp := some ⟨0, false⟩ }) ∧
    (s.pscDiv.toNat ≤ s.pscCnt.toNat + 1 → s.cnt.toNat + 1 < s.maxDuty.toNat →
      exec .timTick s = .next { s with pscCnt := 0, cnt := s.cnt + 1 }) ∧
    (∀ i t, i ≠ .reset → exec i s = .next t → t.seqState = .fatal)

/-- R175: the complete list: a transaction is refused exactly when one of the nine conditions holds, and a refusal has
exactly the effect of `refuse`. -/
def Obligations.RefusedExactlyWhenListed : Prop :=
  ∀ (t : BusWord) (s : State),
    (Illegal t → busEvent t s = .next (refused s)) ∧
    (∀ i, decode t = .ok i → PreconditionFails s i → busEvent t s = .next (refused s)) ∧
    (¬ Illegal t → ∃ i, decode t = .ok i ∧
      (¬ PreconditionFails s i → ∃ u, busEvent t s = .next u ∧ u.faultUsage = s.faultUsage ∧
        ((∃ v, u.resp = some ⟨v, false⟩) ∨ (∃ c, u = hwInitFailed c s) ∨ ∃ c k e, u = stepInvalid c k e s)))

/-- R30: each flag of FAULT is set by the error or refusal the rule names and cleared by RESET alone, and no operation
but RD_FAULT, which returns it, depends on `FAULT.usage`. -/
def Obligations.FaultFlagsAreSticky : Prop :=
  ∀ i s t, exec i s = .next t →
    (i ≠ .reset → (s.faultHwinit = true → t.faultHwinit = true) ∧
      (s.faultInvalidStep = true → t.faultInvalidStep = true) ∧ (s.faultUsage = true → t.faultUsage = true)) ∧
    (s.faultHwinit = false → t.faultHwinit = true → ∃ hz req c, i = .configure hz req ∧ t = hwInitFailed c s) ∧
    (s.faultInvalidStep = false → t.faultInvalidStep = true → ∃ sel c k e, i = .seqStart sel ∧ t = stepInvalid c k e s) ∧
    (s.faultUsage = false → t.faultUsage = true → t = refused s) ∧
    (i = .reset → t.faultHwinit = false ∧ t.faultInvalidStep = false ∧ t.faultUsage = false) ∧
    (∀ b, i ≠ .rdFault →
      ∃ u, exec i { s with faultUsage := b } = .next u ∧ { u with faultUsage := t.faultUsage } = t)

/-- R31, R179: the cause of the first fatal error is written at most once between resets. -/
def Obligations.FatalCauseIsWrittenOnce : Prop :=
  ∀ i s t, Invariants s → exec i s = .next t → i ≠ .reset →
    (fatal s = true → t.faultCause = s.faultCause ∧ t.faultCur = s.faultCur ∧ t.faultStep = s.faultStep ∧
      t.faultHwinit = s.faultHwinit ∧ t.faultInvalidStep = s.faultInvalidStep) ∧
    (fatal s = false → fatal t = false → t.faultCause = s.faultCause ∧ t.faultCur = s.faultCur ∧
      t.faultStep = s.faultStep)

/-- R32: the saturation flag of a channel is set by a duty write that clamps, which logs it in the same event, and
cleared by RESET alone. -/
def Obligations.SaturationFlagIsSticky : Prop :=
  ∀ i s t (n : Chan), exec i s = .next t →
    (i ≠ .reset → s.warnSat[n.val] = true → t.warnSat[n.val] = true) ∧
    (s.warnSat[n.val] = false → t.warnSat[n.val] = true → ∃ l d v, t.log = s.log ++ l ∧ .sat n d v ∈ l) ∧
    (∀ l d v, t.log = s.log ++ l → .sat n d v ∈ l → t.warnSat[n.val] = true) ∧
    (i = .reset → t.warnSat[n.val] = false)

/-- R141: the sequencer's transitions, complete. -/
def Obligations.SequencerTransitions : Prop :=
  ∀ i s t, exec i s = .next t →
    (i = .reset → t.seqState = .idle) ∧
    (∀ sel, i = .seqStart sel → s.seqState = .idle → s.drvState = .configured → sel ≠ 0 →
      (validate s sel = none → t.seqState = .running) ∧ (validate s sel ≠ none → t.seqState = .fatal)) ∧
    (∀ sel, i = .seqStart sel → ¬ (s.seqState = .idle ∧ s.drvState = .configured ∧ sel ≠ 0) → t = refused s) ∧
    (i ≠ .reset → (∀ sel, i ≠ .seqStart sel) → t.seqState = s.seqState) ∧
    (s.seqState ≠ .idle → (∀ e w, i = .wrStepFrac e w ∨ i = .wrStepHold e w → t = refused s) ∧
      (∀ k b l st c, i = .wrCursor k b l st c → t = refused s))

/-- R21: the driver's transitions, complete. -/
def Obligations.DriverTransitions : Prop :=
  ∀ i s t, exec i s = .next t →
    (i = .reset → t.drvState = .unconfigured) ∧
    (i ≠ .reset → t.drvState ≠ s.drvState → ∃ hz req, i = .configure hz req ∧ s.drvState = .unconfigured ∧
      (t.drvState = .configured ∧ t.faultHwinit = s.faultHwinit ∨ ∃ c, t = hwInitFailed c s))

/-- R73, R40 item 8: once the sequencer has been started, or has failed, the step table and the cursor configuration
never change until RESET, so every fetch sees what was validated. -/
def Obligations.ProgramIsLockedAfterStart : Prop :=
  ∀ i s t, exec i s = .next t → s.seqState ≠ .idle → i ≠ .reset →
    SameProgram s t ∧ ∀ j, tableFrac t j = tableFrac s j ∧ tableHold t j = tableHold s j

/-- R38: a cursor's running bit is set by SEQ_START alone and cleared by RESET alone, and a cursor not selected at
SEQ_START never starts later. -/
def Obligations.RunningSetOnlyByStart : Prop :=
  ∀ i s t (k : CurNum), exec i s = .next t →
    (s.running[k.val] = true → t.running[k.val] = false → i = .reset) ∧
    (s.running[k.val] = false → t.running[k.val] = true →
      ∃ sel, i = .seqStart sel ∧ sel.getLsbD k.val = true ∧ validate s sel = none ∧ t.seqState = .running) ∧
    (s.seqState ≠ .idle → s.running[k.val] = false → t.running[k.val] = false) ∧
    (∀ sel, i = .seqStart sel → sel.getLsbD k.val = true → s.drvState = .configured → s.seqState = .idle →
      validate s sel = none → t.running[k.val] = true) ∧
    (i = .reset → t.running[k.val] = false) ∧
    (Invariants s → s.running[k.val] = true → s.seqState = .running)

/-- R163: the cursors' positions are written by SEQ_START, by the advance of MS_TICK, and by RESET, and by nothing else.
-/
def Obligations.PositionWrittenByStartAndAdvance : Prop :=
  ∀ i s t (k : CurNum), exec i s = .next t → t.idx[k.val] ≠ s.idx[k.val] →
    (∃ sel, i = .seqStart sel ∧ sel.getLsbD k.val = true ∧ t.idx[k.val] = s.curStart[k.val]) ∨
    (i = .msTick ∧ Due s k ∧ (s.curLen[k.val] ≠ 0 → t.idx[k.val].toNat = nextIdx s k)) ∨
    (i = .reset ∧ t.idx[k.val] = 0)

/-- R28, R110: a preload duty register is written by SET_DUTY, SET_DUTY_FRAC, SEQ_START, MS_TICK and RESET alone, and
what is written never exceeds the resolution. -/
def Obligations.DutyValueWriters : Prop :=
  ∀ i s t (n : Chan), exec i s = .next t → t.dutyValue[n.val] ≠ s.dutyValue[n.val] →
    i = .reset ∨
    ((i = .msTick ∨ (∃ sel, i = .seqStart sel) ∨ (∃ w, i = .setDuty n w) ∨ (∃ f, i = .setDutyFrac n f)) ∧
      t.dutyValue[n.val].toNat ≤ s.maxDuty.toNat)

/-- R25, R26: the prescaler count and the counter are written by TIM_TICK, CONFIGURE and RESET alone. -/
def Obligations.CounterWriters : Prop :=
  ∀ i s t, exec i s = .next t → t.cnt ≠ s.cnt ∨ t.pscCnt ≠ s.pscCnt →
    i = .timTick ∨ ((i = .reset ∨ ∃ hz req, i = .configure hz req) ∧ t.cnt = 0 ∧ t.pscCnt = 0)

/-- R51: the outputs, with the two end values of the duty. -/
def Obligations.PwmOutputFormula : Prop :=
  ∀ (s : State) (n : Chan),
    (pwmOut s n = true ↔ s.drvState = .configured ∧ s.alloc.getLsbD n.val = true ∧ s.enabled[n.val] = true ∧
      s.cnt.toNat < s.dutyActive[n.val].toNat) ∧
    (s.dutyActive[n.val] = 0 → pwmOut s n = false) ∧
    (Invariants s → s.drvState = .configured → s.enabled[n.val] = true → s.dutyActive[n.val] = s.maxDuty → pwmOut s n = true) ∧
    (fatal s = true ↔ s.faultHwinit = true ∨ s.faultInvalidStep = true)

/-- R52: the event stream is append-only until RESET, and the layout of `ev_rec`. -/
def Obligations.EventStreamLayout : Prop :=
  (∀ i s t, exec i s = .next t → i ≠ .reset → s.log <+: t.log) ∧
  (∀ k n j f v, (LogRec.word (.step k n j f v)).toNat =
    f.toNat * 2 ^ 32 + v.toNat * 2 ^ 12 + j.toNat * 2 ^ 4 + k.val * 8 + n.val * 4 + 1) ∧
  (∀ n v, (LogRec.word (.sat n .below v)).toNat = v.toNat * 2 ^ 12 + n.val * 4 + 2) ∧
  (∀ n v, (LogRec.word (.sat n .above v)).toNat = v.toNat * 2 ^ 12 + 8 + n.val * 4 + 2)

/-- R40, which the spec marks as derived (a step takes one waiting event, the model's choice: log 1, log 9): every step
keeps the invariants (items 1 to 7), from every state that has them; no step but a RESET changes a locked program (item
8). -/
def Obligations.StepKeepsInvariants : Prop :=
  ∀ s t : State, Invariants s → step s = .next t →
    Invariants t ∧ (s.seqState ≠ .idle → s.ports.rst = false → SameProgram s t)

/-- R40, R53 (with the model's own fields at their values of log 2 to log 4): the state after reset has the invariants.
-/
def Obligations.ResetHasInvariants : Prop := Invariants State.reset

/-- R40, which the spec marks as derived (runs of the model's steps: log 1, log 9): the invariants hold after every
event of every run that starts with RESET, whatever the environment delivers, and item 8 holds between any two states of
it with no RESET between. -/
def Obligations.RunsFromResetHaveInvariants : Prop :=
  ∀ (s u t : State) (n : Nat), exec .reset s = .next u → Sys2Proof.core.run n u = .next t →
    Invariants t ∧ ∀ v, step t = .next v → t.seqState ≠ .idle → t.ports.rst = false → SameProgram t v
end

