-- ==== Sys2Proof/Laws/State.lean ====
section
/-! SUPPORT. What each update of the state leaves in each field: one lemma per field per update, true by rfl, so that no
later proof unfolds a record update. -/

namespace Sys2Proof.Machine

variable (s : State)

/-! ## respond -/

@[simp] theorem respond_drvState (v : Word) : (respond v s).drvState = s.drvState := rfl
@[simp] theorem respond_carrierHz (v : Word) : (respond v s).carrierHz = s.carrierHz := rfl
@[simp] theorem respond_alloc (v : Word) : (respond v s).alloc = s.alloc := rfl
@[simp] theorem respond_pscDiv (v : Word) : (respond v s).pscDiv = s.pscDiv := rfl
@[simp] theorem respond_maxDuty (v : Word) : (respond v s).maxDuty = s.maxDuty := rfl
@[simp] theorem respond_pscCnt (v : Word) : (respond v s).pscCnt = s.pscCnt := rfl
@[simp] theorem respond_cnt (v : Word) : (respond v s).cnt = s.cnt := rfl
@[simp] theorem respond_enabled (v : Word) : (respond v s).enabled = s.enabled := rfl
@[simp] theorem respond_dutyValue (v : Word) : (respond v s).dutyValue = s.dutyValue := rfl
@[simp] theorem respond_dutyActive (v : Word) : (respond v s).dutyActive = s.dutyActive := rfl
@[simp] theorem respond_faultHwinit (v : Word) : (respond v s).faultHwinit = s.faultHwinit := rfl
@[simp] theorem respond_faultInvalidStep (v : Word) : (respond v s).faultInvalidStep = s.faultInvalidStep := rfl
@[simp] theorem respond_faultUsage (v : Word) : (respond v s).faultUsage = s.faultUsage := rfl
@[simp] theorem respond_faultCause (v : Word) : (respond v s).faultCause = s.faultCause := rfl
@[simp] theorem respond_faultCur (v : Word) : (respond v s).faultCur = s.faultCur := rfl
@[simp] theorem respond_faultStep (v : Word) : (respond v s).faultStep = s.faultStep := rfl
@[simp] theorem respond_warnSat (v : Word) : (respond v s).warnSat = s.warnSat := rfl
@[simp] theorem respond_seqState (v : Word) : (respond v s).seqState = s.seqState := rfl
@[simp] theorem respond_seqMaxDuty (v : Word) : (respond v s).seqMaxDuty = s.seqMaxDuty := rfl
@[simp] theorem respond_stepFrac (v : Word) : (respond v s).stepFrac = s.stepFrac := rfl
@[simp] theorem respond_stepHold (v : Word) : (respond v s).stepHold = s.stepHold := rfl
@[simp] theorem respond_curBase (v : Word) : (respond v s).curBase = s.curBase := rfl
@[simp] theorem respond_curLen (v : Word) : (respond v s).curLen = s.curLen := rfl
@[simp] theorem respond_curStart (v : Word) : (respond v s).curStart = s.curStart := rfl
@[simp] theorem respond_curChm (v : Word) : (respond v s).curChm = s.curChm := rfl
@[simp] theorem respond_idx (v : Word) : (respond v s).idx = s.idx := rfl
@[simp] theorem respond_running (v : Word) : (respond v s).running = s.running := rfl
@[simp] theorem respond_holdRem (v : Word) : (respond v s).holdRem = s.holdRem := rfl
@[simp] theorem respond_log (v : Word) : (respond v s).log = s.log := rfl
@[simp] theorem respond_resp (v : Word) : (respond v s).resp = some ⟨v, false⟩ := rfl
@[simp] theorem respond_ports (v : Word) : (respond v s).ports = s.ports := rfl
@[simp] theorem respond_coming (v : Word) : (respond v s).coming = s.coming := rfl
@[simp] theorem respond_dividers (v : Word) : (respond v s).dividers = s.dividers := rfl

/-! ## ack -/

@[simp] theorem ack_drvState : (ack s).drvState = s.drvState := rfl
@[simp] theorem ack_carrierHz : (ack s).carrierHz = s.carrierHz := rfl
@[simp] theorem ack_alloc : (ack s).alloc = s.alloc := rfl
@[simp] theorem ack_pscDiv : (ack s).pscDiv = s.pscDiv := rfl
@[simp] theorem ack_maxDuty : (ack s).maxDuty = s.maxDuty := rfl
@[simp] theorem ack_pscCnt : (ack s).pscCnt = s.pscCnt := rfl
@[simp] theorem ack_cnt : (ack s).cnt = s.cnt := rfl
@[simp] theorem ack_enabled : (ack s).enabled = s.enabled := rfl
@[simp] theorem ack_dutyValue : (ack s).dutyValue = s.dutyValue := rfl
@[simp] theorem ack_dutyActive : (ack s).dutyActive = s.dutyActive := rfl
@[simp] theorem ack_faultHwinit : (ack s).faultHwinit = s.faultHwinit := rfl
@[simp] theorem ack_faultInvalidStep : (ack s).faultInvalidStep = s.faultInvalidStep := rfl
@[simp] theorem ack_faultUsage : (ack s).faultUsage = s.faultUsage := rfl
@[simp] theorem ack_faultCause : (ack s).faultCause = s.faultCause := rfl
@[simp] theorem ack_faultCur : (ack s).faultCur = s.faultCur := rfl
@[simp] theorem ack_faultStep : (ack s).faultStep = s.faultStep := rfl
@[simp] theorem ack_warnSat : (ack s).warnSat = s.warnSat := rfl
@[simp] theorem ack_seqState : (ack s).seqState = s.seqState := rfl
@[simp] theorem ack_seqMaxDuty : (ack s).seqMaxDuty = s.seqMaxDuty := rfl
@[simp] theorem ack_stepFrac : (ack s).stepFrac = s.stepFrac := rfl
@[simp] theorem ack_stepHold : (ack s).stepHold = s.stepHold := rfl
@[simp] theorem ack_curBase : (ack s).curBase = s.curBase := rfl
@[simp] theorem ack_curLen : (ack s).curLen = s.curLen := rfl
@[simp] theorem ack_curStart : (ack s).curStart = s.curStart := rfl
@[simp] theorem ack_curChm : (ack s).curChm = s.curChm := rfl
@[simp] theorem ack_idx : (ack s).idx = s.idx := rfl
@[simp] theorem ack_running : (ack s).running = s.running := rfl
@[simp] theorem ack_holdRem : (ack s).holdRem = s.holdRem := rfl
@[simp] theorem ack_log : (ack s).log = s.log := rfl
@[simp] theorem ack_resp : (ack s).resp = some ⟨0, false⟩ := rfl
@[simp] theorem ack_ports : (ack s).ports = s.ports := rfl
@[simp] theorem ack_coming : (ack s).coming = s.coming := rfl
@[simp] theorem ack_dividers : (ack s).dividers = s.dividers := rfl

/-! ## respondErr -/

@[simp] theorem respondErr_drvState : (respondErr s).drvState = s.drvState := rfl
@[simp] theorem respondErr_carrierHz : (respondErr s).carrierHz = s.carrierHz := rfl
@[simp] theorem respondErr_alloc : (respondErr s).alloc = s.alloc := rfl
@[simp] theorem respondErr_pscDiv : (respondErr s).pscDiv = s.pscDiv := rfl
@[simp] theorem respondErr_maxDuty : (respondErr s).maxDuty = s.maxDuty := rfl
@[simp] theorem respondErr_pscCnt : (respondErr s).pscCnt = s.pscCnt := rfl
@[simp] theorem respondErr_cnt : (respondErr s).cnt = s.cnt := rfl
@[simp] theorem respondErr_enabled : (respondErr s).enabled = s.enabled := rfl
@[simp] theorem respondErr_dutyValue : (respondErr s).dutyValue = s.dutyValue := rfl
@[simp] theorem respondErr_dutyActive : (respondErr s).dutyActive = s.dutyActive := rfl
@[simp] theorem respondErr_faultHwinit : (respondErr s).faultHwinit = s.faultHwinit := rfl
@[simp] theorem respondErr_faultInvalidStep : (respondErr s).faultInvalidStep = s.faultInvalidStep := rfl
@[simp] theorem respondErr_faultUsage : (respondErr s).faultUsage = s.faultUsage := rfl
@[simp] theorem respondErr_faultCause : (respondErr s).faultCause = s.faultCause := rfl
@[simp] theorem respondErr_faultCur : (respondErr s).faultCur = s.faultCur := rfl
@[simp] theorem respondErr_faultStep : (respondErr s).faultStep = s.faultStep := rfl
@[simp] theorem respondErr_warnSat : (respondErr s).warnSat = s.warnSat := rfl
@[simp] theorem respondErr_seqState : (respondErr s).seqState = s.seqState := rfl
@[simp] theorem respondErr_seqMaxDuty : (respondErr s).seqMaxDuty = s.seqMaxDuty := rfl
@[simp] theorem respondErr_stepFrac : (respondErr s).stepFrac = s.stepFrac := rfl
@[simp] theorem respondErr_stepHold : (respondErr s).stepHold = s.stepHold := rfl
@[simp] theorem respondErr_curBase : (respondErr s).curBase = s.curBase := rfl
@[simp] theorem respondErr_curLen : (respondErr s).curLen = s.curLen := rfl
@[simp] theorem respondErr_curStart : (respondErr s).curStart = s.curStart := rfl
@[simp] theorem respondErr_curChm : (respondErr s).curChm = s.curChm := rfl
@[simp] theorem respondErr_idx : (respondErr s).idx = s.idx := rfl
@[simp] theorem respondErr_running : (respondErr s).running = s.running := rfl
@[simp] theorem respondErr_holdRem : (respondErr s).holdRem = s.holdRem := rfl
@[simp] theorem respondErr_log : (respondErr s).log = s.log := rfl
@[simp] theorem respondErr_resp : (respondErr s).resp = some ⟨0, true⟩ := rfl
@[simp] theorem respondErr_ports : (respondErr s).ports = s.ports := rfl
@[simp] theorem respondErr_coming : (respondErr s).coming = s.coming := rfl
@[simp] theorem respondErr_dividers : (respondErr s).dividers = s.dividers := rfl

/-! ## refuse -/

@[simp] theorem refuse_drvState : (refuse s).drvState = s.drvState := rfl
@[simp] theorem refuse_carrierHz : (refuse s).carrierHz = s.carrierHz := rfl
@[simp] theorem refuse_alloc : (refuse s).alloc = s.alloc := rfl
@[simp] theorem refuse_pscDiv : (refuse s).pscDiv = s.pscDiv := rfl
@[simp] theorem refuse_maxDuty : (refuse s).maxDuty = s.maxDuty := rfl
@[simp] theorem refuse_pscCnt : (refuse s).pscCnt = s.pscCnt := rfl
@[simp] theorem refuse_cnt : (refuse s).cnt = s.cnt := rfl
@[simp] theorem refuse_enabled : (refuse s).enabled = s.enabled := rfl
@[simp] theorem refuse_dutyValue : (refuse s).dutyValue = s.dutyValue := rfl
@[simp] theorem refuse_dutyActive : (refuse s).dutyActive = s.dutyActive := rfl
@[simp] theorem refuse_faultHwinit : (refuse s).faultHwinit = s.faultHwinit := rfl
@[simp] theorem refuse_faultInvalidStep : (refuse s).faultInvalidStep = s.faultInvalidStep := rfl
@[simp] theorem refuse_faultUsage : (refuse s).faultUsage = true := rfl
@[simp] theorem refuse_faultCause : (refuse s).faultCause = s.faultCause := rfl
@[simp] theorem refuse_faultCur : (refuse s).faultCur = s.faultCur := rfl
@[simp] theorem refuse_faultStep : (refuse s).faultStep = s.faultStep := rfl
@[simp] theorem refuse_warnSat : (refuse s).warnSat = s.warnSat := rfl
@[simp] theorem refuse_seqState : (refuse s).seqState = s.seqState := rfl
@[simp] theorem refuse_seqMaxDuty : (refuse s).seqMaxDuty = s.seqMaxDuty := rfl
@[simp] theorem refuse_stepFrac : (refuse s).stepFrac = s.stepFrac := rfl
@[simp] theorem refuse_stepHold : (refuse s).stepHold = s.stepHold := rfl
@[simp] theorem refuse_curBase : (refuse s).curBase = s.curBase := rfl
@[simp] theorem refuse_curLen : (refuse s).curLen = s.curLen := rfl
@[simp] theorem refuse_curStart : (refuse s).curStart = s.curStart := rfl
@[simp] theorem refuse_curChm : (refuse s).curChm = s.curChm := rfl
@[simp] theorem refuse_idx : (refuse s).idx = s.idx := rfl
@[simp] theorem refuse_running : (refuse s).running = s.running := rfl
@[simp] theorem refuse_holdRem : (refuse s).holdRem = s.holdRem := rfl
@[simp] theorem refuse_log : (refuse s).log = s.log := rfl
@[simp] theorem refuse_resp : (refuse s).resp = some ⟨0, true⟩ := rfl
@[simp] theorem refuse_ports : (refuse s).ports = s.ports := rfl
@[simp] theorem refuse_coming : (refuse s).coming = s.coming := rfl
@[simp] theorem refuse_dividers : (refuse s).dividers = s.dividers := rfl

/-! ## emit -/

@[simp] theorem emit_drvState (r : LogRec) : (emit r s).drvState = s.drvState := rfl
@[simp] theorem emit_carrierHz (r : LogRec) : (emit r s).carrierHz = s.carrierHz := rfl
@[simp] theorem emit_alloc (r : LogRec) : (emit r s).alloc = s.alloc := rfl
@[simp] theorem emit_pscDiv (r : LogRec) : (emit r s).pscDiv = s.pscDiv := rfl
@[simp] theorem emit_maxDuty (r : LogRec) : (emit r s).maxDuty = s.maxDuty := rfl
@[simp] theorem emit_pscCnt (r : LogRec) : (emit r s).pscCnt = s.pscCnt := rfl
@[simp] theorem emit_cnt (r : LogRec) : (emit r s).cnt = s.cnt := rfl
@[simp] theorem emit_enabled (r : LogRec) : (emit r s).enabled = s.enabled := rfl
@[simp] theorem emit_dutyValue (r : LogRec) : (emit r s).dutyValue = s.dutyValue := rfl
@[simp] theorem emit_dutyActive (r : LogRec) : (emit r s).dutyActive = s.dutyActive := rfl
@[simp] theorem emit_faultHwinit (r : LogRec) : (emit r s).faultHwinit = s.faultHwinit := rfl
@[simp] theorem emit_faultInvalidStep (r : LogRec) : (emit r s).faultInvalidStep = s.faultInvalidStep := rfl
@[simp] theorem emit_faultUsage (r : LogRec) : (emit r s).faultUsage = s.faultUsage := rfl
@[simp] theorem emit_faultCause (r : LogRec) : (emit r s).faultCause = s.faultCause := rfl
@[simp] theorem emit_faultCur (r : LogRec) : (emit r s).faultCur = s.faultCur := rfl
@[simp] theorem emit_faultStep (r : LogRec) : (emit r s).faultStep = s.faultStep := rfl
@[simp] theorem emit_warnSat (r : LogRec) : (emit r s).warnSat = s.warnSat := rfl
@[simp] theorem emit_seqState (r : LogRec) : (emit r s).seqState = s.seqState := rfl
@[simp] theorem emit_seqMaxDuty (r : LogRec) : (emit r s).seqMaxDuty = s.seqMaxDuty := rfl
@[simp] theorem emit_stepFrac (r : LogRec) : (emit r s).stepFrac = s.stepFrac := rfl
@[simp] theorem emit_stepHold (r : LogRec) : (emit r s).stepHold = s.stepHold := rfl
@[simp] theorem emit_curBase (r : LogRec) : (emit r s).curBase = s.curBase := rfl
@[simp] theorem emit_curLen (r : LogRec) : (emit r s).curLen = s.curLen := rfl
@[simp] theorem emit_curStart (r : LogRec) : (emit r s).curStart = s.curStart := rfl
@[simp] theorem emit_curChm (r : LogRec) : (emit r s).curChm = s.curChm := rfl
@[simp] theorem emit_idx (r : LogRec) : (emit r s).idx = s.idx := rfl
@[simp] theorem emit_running (r : LogRec) : (emit r s).running = s.running := rfl
@[simp] theorem emit_holdRem (r : LogRec) : (emit r s).holdRem = s.holdRem := rfl
@[simp] theorem emit_log (r : LogRec) : (emit r s).log = s.log ++ [r] := rfl
@[simp] theorem emit_resp (r : LogRec) : (emit r s).resp = s.resp := rfl
@[simp] theorem emit_ports (r : LogRec) : (emit r s).ports = s.ports := rfl
@[simp] theorem emit_coming (r : LogRec) : (emit r s).coming = s.coming := rfl
@[simp] theorem emit_dividers (r : LogRec) : (emit r s).dividers = s.dividers := rfl

/-! ## setDutyValue -/

@[simp] theorem setDutyValue_drvState (n : Chan) (v : DutyWord) : (setDutyValue n v s).drvState = s.drvState := rfl
@[simp] theorem setDutyValue_carrierHz (n : Chan) (v : DutyWord) : (setDutyValue n v s).carrierHz = s.carrierHz := rfl
@[simp] theorem setDutyValue_alloc (n : Chan) (v : DutyWord) : (setDutyValue n v s).alloc = s.alloc := rfl
@[simp] theorem setDutyValue_pscDiv (n : Chan) (v : DutyWord) : (setDutyValue n v s).pscDiv = s.pscDiv := rfl
@[simp] theorem setDutyValue_maxDuty (n : Chan) (v : DutyWord) : (setDutyValue n v s).maxDuty = s.maxDuty := rfl
@[simp] theorem setDutyValue_pscCnt (n : Chan) (v : DutyWord) : (setDutyValue n v s).pscCnt = s.pscCnt := rfl
@[simp] theorem setDutyValue_cnt (n : Chan) (v : DutyWord) : (setDutyValue n v s).cnt = s.cnt := rfl
@[simp] theorem setDutyValue_enabled (n : Chan) (v : DutyWord) : (setDutyValue n v s).enabled = s.enabled := rfl
@[simp] theorem setDutyValue_dutyValue (n : Chan) (v : DutyWord) : (setDutyValue n v s).dutyValue = s.dutyValue.set n v := rfl
@[simp] theorem setDutyValue_dutyActive (n : Chan) (v : DutyWord) : (setDutyValue n v s).dutyActive = s.dutyActive := rfl
@[simp] theorem setDutyValue_faultHwinit (n : Chan) (v : DutyWord) : (setDutyValue n v s).faultHwinit = s.faultHwinit := rfl
@[simp] theorem setDutyValue_faultInvalidStep (n : Chan) (v : DutyWord) : (setDutyValue n v s).faultInvalidStep = s.faultInvalidStep := rfl
@[simp] theorem setDutyValue_faultUsage (n : Chan) (v : DutyWord) : (setDutyValue n v s).faultUsage = s.faultUsage := rfl
@[simp] theorem setDutyValue_faultCause (n : Chan) (v : DutyWord) : (setDutyValue n v s).faultCause = s.faultCause := rfl
@[simp] theorem setDutyValue_faultCur (n : Chan) (v : DutyWord) : (setDutyValue n v s).faultCur = s.faultCur := rfl
@[simp] theorem setDutyValue_faultStep (n : Chan) (v : DutyWord) : (setDutyValue n v s).faultStep = s.faultStep := rfl
@[simp] theorem setDutyValue_warnSat (n : Chan) (v : DutyWord) : (setDutyValue n v s).warnSat = s.warnSat := rfl
@[simp] theorem setDutyValue_seqState (n : Chan) (v : DutyWord) : (setDutyValue n v s).seqState = s.seqState := rfl
@[simp] theorem setDutyValue_seqMaxDuty (n : Chan) (v : DutyWord) : (setDutyValue n v s).seqMaxDuty = s.seqMaxDuty := rfl
@[simp] theorem setDutyValue_stepFrac (n : Chan) (v : DutyWord) : (setDutyValue n v s).stepFrac = s.stepFrac := rfl
@[simp] theorem setDutyValue_stepHold (n : Chan) (v : DutyWord) : (setDutyValue n v s).stepHold = s.stepHold := rfl
@[simp] theorem setDutyValue_curBase (n : Chan) (v : DutyWord) : (setDutyValue n v s).curBase = s.curBase := rfl
@[simp] theorem setDutyValue_curLen (n : Chan) (v : DutyWord) : (setDutyValue n v s).curLen = s.curLen := rfl
@[simp] theorem setDutyValue_curStart (n : Chan) (v : DutyWord) : (setDutyValue n v s).curStart = s.curStart := rfl
@[simp] theorem setDutyValue_curChm (n : Chan) (v : DutyWord) : (setDutyValue n v s).curChm = s.curChm := rfl
@[simp] theorem setDutyValue_idx (n : Chan) (v : DutyWord) : (setDutyValue n v s).idx = s.idx := rfl
@[simp] theorem setDutyValue_running (n : Chan) (v : DutyWord) : (setDutyValue n v s).running = s.running := rfl
@[simp] theorem setDutyValue_holdRem (n : Chan) (v : DutyWord) : (setDutyValue n v s).holdRem = s.holdRem := rfl
@[simp] theorem setDutyValue_log (n : Chan) (v : DutyWord) : (setDutyValue n v s).log = s.log := rfl
@[simp] theorem setDutyValue_resp (n : Chan) (v : DutyWord) : (setDutyValue n v s).resp = s.resp := rfl
@[simp] theorem setDutyValue_ports (n : Chan) (v : DutyWord) : (setDutyValue n v s).ports = s.ports := rfl
@[simp] theorem setDutyValue_coming (n : Chan) (v : DutyWord) : (setDutyValue n v s).coming = s.coming := rfl
@[simp] theorem setDutyValue_dividers (n : Chan) (v : DutyWord) : (setDutyValue n v s).dividers = s.dividers := rfl

/-! ## warnDutySaturation -/

@[simp] theorem warnDutySaturation_drvState (n : Chan) (d : SatDir) : (warnDutySaturation n d s).drvState = s.drvState := rfl
@[simp] theorem warnDutySaturation_carrierHz (n : Chan) (d : SatDir) : (warnDutySaturation n d s).carrierHz = s.carrierHz := rfl
@[simp] theorem warnDutySaturation_alloc (n : Chan) (d : SatDir) : (warnDutySaturation n d s).alloc = s.alloc := rfl
@[simp] theorem warnDutySaturation_pscDiv (n : Chan) (d : SatDir) : (warnDutySaturation n d s).pscDiv = s.pscDiv := rfl
@[simp] theorem warnDutySaturation_maxDuty (n : Chan) (d : SatDir) : (warnDutySaturation n d s).maxDuty = s.maxDuty := rfl
@[simp] theorem warnDutySaturation_pscCnt (n : Chan) (d : SatDir) : (warnDutySaturation n d s).pscCnt = s.pscCnt := rfl
@[simp] theorem warnDutySaturation_cnt (n : Chan) (d : SatDir) : (warnDutySaturation n d s).cnt = s.cnt := rfl
@[simp] theorem warnDutySaturation_enabled (n : Chan) (d : SatDir) : (warnDutySaturation n d s).enabled = s.enabled := rfl
@[simp] theorem warnDutySaturation_dutyValue (n : Chan) (d : SatDir) : (warnDutySaturation n d s).dutyValue = s.dutyValue := rfl
@[simp] theorem warnDutySaturation_dutyActive (n : Chan) (d : SatDir) : (warnDutySaturation n d s).dutyActive = s.dutyActive := rfl
@[simp] theorem warnDutySaturation_faultHwinit (n : Chan) (d : SatDir) : (warnDutySaturation n d s).faultHwinit = s.faultHwinit := rfl
@[simp] theorem warnDutySaturation_faultInvalidStep (n : Chan) (d : SatDir) : (warnDutySaturation n d s).faultInvalidStep = s.faultInvalidStep := rfl
@[simp] theorem warnDutySaturation_faultUsage (n : Chan) (d : SatDir) : (warnDutySaturation n d s).faultUsage = s.faultUsage := rfl
@[simp] theorem warnDutySaturation_faultCause (n : Chan) (d : SatDir) : (warnDutySaturation n d s).faultCause = s.faultCause := rfl
@[simp] theorem warnDutySaturation_faultCur (n : Chan) (d : SatDir) : (warnDutySaturation n d s).faultCur = s.faultCur := rfl
@[simp] theorem warnDutySaturation_faultStep (n : Chan) (d : SatDir) : (warnDutySaturation n d s).faultStep = s.faultStep := rfl
@[simp] theorem warnDutySaturation_warnSat (n : Chan) (d : SatDir) : (warnDutySaturation n d s).warnSat = s.warnSat.set n true := rfl
@[simp] theorem warnDutySaturation_seqState (n : Chan) (d : SatDir) : (warnDutySaturation n d s).seqState = s.seqState := rfl
@[simp] theorem warnDutySaturation_seqMaxDuty (n : Chan) (d : SatDir) : (warnDutySaturation n d s).seqMaxDuty = s.seqMaxDuty := rfl
@[simp] theorem warnDutySaturation_stepFrac (n : Chan) (d : SatDir) : (warnDutySaturation n d s).stepFrac = s.stepFrac := rfl
@[simp] theorem warnDutySaturation_stepHold (n : Chan) (d : SatDir) : (warnDutySaturation n d s).stepHold = s.stepHold := rfl
@[simp] theorem warnDutySaturation_curBase (n : Chan) (d : SatDir) : (warnDutySaturation n d s).curBase = s.curBase := rfl
@[simp] theorem warnDutySaturation_curLen (n : Chan) (d : SatDir) : (warnDutySaturation n d s).curLen = s.curLen := rfl
@[simp] theorem warnDutySaturation_curStart (n : Chan) (d : SatDir) : (warnDutySaturation n d s).curStart = s.curStart := rfl
@[simp] theorem warnDutySaturation_curChm (n : Chan) (d : SatDir) : (warnDutySaturation n d s).curChm = s.curChm := rfl
@[simp] theorem warnDutySaturation_idx (n : Chan) (d : SatDir) : (warnDutySaturation n d s).idx = s.idx := rfl
@[simp] theorem warnDutySaturation_running (n : Chan) (d : SatDir) : (warnDutySaturation n d s).running = s.running := rfl
@[simp] theorem warnDutySaturation_holdRem (n : Chan) (d : SatDir) : (warnDutySaturation n d s).holdRem = s.holdRem := rfl
@[simp] theorem warnDutySaturation_log (n : Chan) (d : SatDir) : (warnDutySaturation n d s).log = s.log ++ [.sat n d s.dutyValue[n.val]] := rfl
@[simp] theorem warnDutySaturation_resp (n : Chan) (d : SatDir) : (warnDutySaturation n d s).resp = s.resp := rfl
@[simp] theorem warnDutySaturation_ports (n : Chan) (d : SatDir) : (warnDutySaturation n d s).ports = s.ports := rfl
@[simp] theorem warnDutySaturation_coming (n : Chan) (d : SatDir) : (warnDutySaturation n d s).coming = s.coming := rfl
@[simp] theorem warnDutySaturation_dividers (n : Chan) (d : SatDir) : (warnDutySaturation n d s).dividers = s.dividers := rfl

/-! ## frameStart -/

@[simp] theorem frameStart_drvState : (frameStart s).drvState = s.drvState := rfl
@[simp] theorem frameStart_carrierHz : (frameStart s).carrierHz = s.carrierHz := rfl
@[simp] theorem frameStart_alloc : (frameStart s).alloc = s.alloc := rfl
@[simp] theorem frameStart_pscDiv : (frameStart s).pscDiv = s.pscDiv := rfl
@[simp] theorem frameStart_maxDuty : (frameStart s).maxDuty = s.maxDuty := rfl
@[simp] theorem frameStart_pscCnt : (frameStart s).pscCnt = s.pscCnt := rfl
@[simp] theorem frameStart_cnt : (frameStart s).cnt = 0 := rfl
@[simp] theorem frameStart_enabled : (frameStart s).enabled = s.enabled := rfl
@[simp] theorem frameStart_dutyValue : (frameStart s).dutyValue = s.dutyValue := rfl
@[simp] theorem frameStart_dutyActive : (frameStart s).dutyActive = s.dutyValue := rfl
@[simp] theorem frameStart_faultHwinit : (frameStart s).faultHwinit = s.faultHwinit := rfl
@[simp] theorem frameStart_faultInvalidStep : (frameStart s).faultInvalidStep = s.faultInvalidStep := rfl
@[simp] theorem frameStart_faultUsage : (frameStart s).faultUsage = s.faultUsage := rfl
@[simp] theorem frameStart_faultCause : (frameStart s).faultCause = s.faultCause := rfl
@[simp] theorem frameStart_faultCur : (frameStart s).faultCur = s.faultCur := rfl
@[simp] theorem frameStart_faultStep : (frameStart s).faultStep = s.faultStep := rfl
@[simp] theorem frameStart_warnSat : (frameStart s).warnSat = s.warnSat := rfl
@[simp] theorem frameStart_seqState : (frameStart s).seqState = s.seqState := rfl
@[simp] theorem frameStart_seqMaxDuty : (frameStart s).seqMaxDuty = s.seqMaxDuty := rfl
@[simp] theorem frameStart_stepFrac : (frameStart s).stepFrac = s.stepFrac := rfl
@[simp] theorem frameStart_stepHold : (frameStart s).stepHold = s.stepHold := rfl
@[simp] theorem frameStart_curBase : (frameStart s).curBase = s.curBase := rfl
@[simp] theorem frameStart_curLen : (frameStart s).curLen = s.curLen := rfl
@[simp] theorem frameStart_curStart : (frameStart s).curStart = s.curStart := rfl
@[simp] theorem frameStart_curChm : (frameStart s).curChm = s.curChm := rfl
@[simp] theorem frameStart_idx : (frameStart s).idx = s.idx := rfl
@[simp] theorem frameStart_running : (frameStart s).running = s.running := rfl
@[simp] theorem frameStart_holdRem : (frameStart s).holdRem = s.holdRem := rfl
@[simp] theorem frameStart_log : (frameStart s).log = s.log := rfl
@[simp] theorem frameStart_resp : (frameStart s).resp = s.resp := rfl
@[simp] theorem frameStart_ports : (frameStart s).ports = s.ports := rfl
@[simp] theorem frameStart_coming : (frameStart s).coming = s.coming := rfl
@[simp] theorem frameStart_dividers : (frameStart s).dividers = s.dividers := rfl

/-! ## configureTimer -/

@[simp] theorem configureTimer_drvState (hz : BitVec 16) (req : Set2) (p m : Nat) : (configureTimer hz req p m s).drvState = .configured := rfl
@[simp] theorem configureTimer_carrierHz (hz : BitVec 16) (req : Set2) (p m : Nat) : (configureTimer hz req p m s).carrierHz = hz := rfl
@[simp] theorem configureTimer_alloc (hz : BitVec 16) (req : Set2) (p m : Nat) : (configureTimer hz req p m s).alloc = req := rfl
@[simp] theorem configureTimer_pscDiv (hz : BitVec 16) (req : Set2) (p m : Nat) : (configureTimer hz req p m s).pscDiv = BitVec.ofNat 17 p := rfl
@[simp] theorem configureTimer_maxDuty (hz : BitVec 16) (req : Set2) (p m : Nat) : (configureTimer hz req p m s).maxDuty = BitVec.ofNat 17 m := rfl
@[simp] theorem configureTimer_pscCnt (hz : BitVec 16) (req : Set2) (p m : Nat) : (configureTimer hz req p m s).pscCnt = 0 := rfl
@[simp] theorem configureTimer_cnt (hz : BitVec 16) (req : Set2) (p m : Nat) : (configureTimer hz req p m s).cnt = 0 := rfl
@[simp] theorem configureTimer_enabled (hz : BitVec 16) (req : Set2) (p m : Nat) : (configureTimer hz req p m s).enabled = s.enabled := rfl
@[simp] theorem configureTimer_dutyValue (hz : BitVec 16) (req : Set2) (p m : Nat) : (configureTimer hz req p m s).dutyValue = s.dutyValue := rfl
@[simp] theorem configureTimer_dutyActive (hz : BitVec 16) (req : Set2) (p m : Nat) : (configureTimer hz req p m s).dutyActive = .replicate 2 0 := rfl
@[simp] theorem configureTimer_faultHwinit (hz : BitVec 16) (req : Set2) (p m : Nat) : (configureTimer hz req p m s).faultHwinit = s.faultHwinit := rfl
@[simp] theorem configureTimer_faultInvalidStep (hz : BitVec 16) (req : Set2) (p m : Nat) : (configureTimer hz req p m s).faultInvalidStep = s.faultInvalidStep := rfl
@[simp] theorem configureTimer_faultUsage (hz : BitVec 16) (req : Set2) (p m : Nat) : (configureTimer hz req p m s).faultUsage = s.faultUsage := rfl
@[simp] theorem configureTimer_faultCause (hz : BitVec 16) (req : Set2) (p m : Nat) : (configureTimer hz req p m s).faultCause = s.faultCause := rfl
@[simp] theorem configureTimer_faultCur (hz : BitVec 16) (req : Set2) (p m : Nat) : (configureTimer hz req p m s).faultCur = s.faultCur := rfl
@[simp] theorem configureTimer_faultStep (hz : BitVec 16) (req : Set2) (p m : Nat) : (configureTimer hz req p m s).faultStep = s.faultStep := rfl
@[simp] theorem configureTimer_warnSat (hz : BitVec 16) (req : Set2) (p m : Nat) : (configureTimer hz req p m s).warnSat = s.warnSat := rfl
@[simp] theorem configureTimer_seqState (hz : BitVec 16) (req : Set2) (p m : Nat) : (configureTimer hz req p m s).seqState = s.seqState := rfl
@[simp] theorem configureTimer_seqMaxDuty (hz : BitVec 16) (req : Set2) (p m : Nat) : (configureTimer hz req p m s).seqMaxDuty = s.seqMaxDuty := rfl
@[simp] theorem configureTimer_stepFrac (hz : BitVec 16) (req : Set2) (p m : Nat) : (configureTimer hz req p m s).stepFrac = s.stepFrac := rfl
@[simp] theorem configureTimer_stepHold (hz : BitVec 16) (req : Set2) (p m : Nat) : (configureTimer hz req p m s).stepHold = s.stepHold := rfl
@[simp] theorem configureTimer_curBase (hz : BitVec 16) (req : Set2) (p m : Nat) : (configureTimer hz req p m s).curBase = s.curBase := rfl
@[simp] theorem configureTimer_curLen (hz : BitVec 16) (req : Set2) (p m : Nat) : (configureTimer hz req p m s).curLen = s.curLen := rfl
@[simp] theorem configureTimer_curStart (hz : BitVec 16) (req : Set2) (p m : Nat) : (configureTimer hz req p m s).curStart = s.curStart := rfl
@[simp] theorem configureTimer_curChm (hz : BitVec 16) (req : Set2) (p m : Nat) : (configureTimer hz req p m s).curChm = s.curChm := rfl
@[simp] theorem configureTimer_idx (hz : BitVec 16) (req : Set2) (p m : Nat) : (configureTimer hz req p m s).idx = s.idx := rfl
@[simp] theorem configureTimer_running (hz : BitVec 16) (req : Set2) (p m : Nat) : (configureTimer hz req p m s).running = s.running := rfl
@[simp] theorem configureTimer_holdRem (hz : BitVec 16) (req : Set2) (p m : Nat) : (configureTimer hz req p m s).holdRem = s.holdRem := rfl
@[simp] theorem configureTimer_log (hz : BitVec 16) (req : Set2) (p m : Nat) : (configureTimer hz req p m s).log = s.log := rfl
@[simp] theorem configureTimer_resp (hz : BitVec 16) (req : Set2) (p m : Nat) : (configureTimer hz req p m s).resp = s.resp := rfl
@[simp] theorem configureTimer_ports (hz : BitVec 16) (req : Set2) (p m : Nat) : (configureTimer hz req p m s).ports = s.ports := rfl
@[simp] theorem configureTimer_coming (hz : BitVec 16) (req : Set2) (p m : Nat) : (configureTimer hz req p m s).coming = s.coming := rfl
@[simp] theorem configureTimer_dividers (hz : BitVec 16) (req : Set2) (p m : Nat) : (configureTimer hz req p m s).dividers = s.dividers := rfl

/-! ## reloadHold -/

@[simp] theorem reloadHold_drvState (k : CurNum) : (reloadHold k s).drvState = s.drvState := rfl
@[simp] theorem reloadHold_carrierHz (k : CurNum) : (reloadHold k s).carrierHz = s.carrierHz := rfl
@[simp] theorem reloadHold_alloc (k : CurNum) : (reloadHold k s).alloc = s.alloc := rfl
@[simp] theorem reloadHold_pscDiv (k : CurNum) : (reloadHold k s).pscDiv = s.pscDiv := rfl
@[simp] theorem reloadHold_maxDuty (k : CurNum) : (reloadHold k s).maxDuty = s.maxDuty := rfl
@[simp] theorem reloadHold_pscCnt (k : CurNum) : (reloadHold k s).pscCnt = s.pscCnt := rfl
@[simp] theorem reloadHold_cnt (k : CurNum) : (reloadHold k s).cnt = s.cnt := rfl
@[simp] theorem reloadHold_enabled (k : CurNum) : (reloadHold k s).enabled = s.enabled := rfl
@[simp] theorem reloadHold_dutyValue (k : CurNum) : (reloadHold k s).dutyValue = s.dutyValue := rfl
@[simp] theorem reloadHold_dutyActive (k : CurNum) : (reloadHold k s).dutyActive = s.dutyActive := rfl
@[simp] theorem reloadHold_faultHwinit (k : CurNum) : (reloadHold k s).faultHwinit = s.faultHwinit := rfl
@[simp] theorem reloadHold_faultInvalidStep (k : CurNum) : (reloadHold k s).faultInvalidStep = s.faultInvalidStep := rfl
@[simp] theorem reloadHold_faultUsage (k : CurNum) : (reloadHold k s).faultUsage = s.faultUsage := rfl
@[simp] theorem reloadHold_faultCause (k : CurNum) : (reloadHold k s).faultCause = s.faultCause := rfl
@[simp] theorem reloadHold_faultCur (k : CurNum) : (reloadHold k s).faultCur = s.faultCur := rfl
@[simp] theorem reloadHold_faultStep (k : CurNum) : (reloadHold k s).faultStep = s.faultStep := rfl
@[simp] theorem reloadHold_warnSat (k : CurNum) : (reloadHold k s).warnSat = s.warnSat := rfl
@[simp] theorem reloadHold_seqState (k : CurNum) : (reloadHold k s).seqState = s.seqState := rfl
@[simp] theorem reloadHold_seqMaxDuty (k : CurNum) : (reloadHold k s).seqMaxDuty = s.seqMaxDuty := rfl
@[simp] theorem reloadHold_stepFrac (k : CurNum) : (reloadHold k s).stepFrac = s.stepFrac := rfl
@[simp] theorem reloadHold_stepHold (k : CurNum) : (reloadHold k s).stepHold = s.stepHold := rfl
@[simp] theorem reloadHold_curBase (k : CurNum) : (reloadHold k s).curBase = s.curBase := rfl
@[simp] theorem reloadHold_curLen (k : CurNum) : (reloadHold k s).curLen = s.curLen := rfl
@[simp] theorem reloadHold_curStart (k : CurNum) : (reloadHold k s).curStart = s.curStart := rfl
@[simp] theorem reloadHold_curChm (k : CurNum) : (reloadHold k s).curChm = s.curChm := rfl
@[simp] theorem reloadHold_idx (k : CurNum) : (reloadHold k s).idx = s.idx := rfl
@[simp] theorem reloadHold_running (k : CurNum) : (reloadHold k s).running = s.running := rfl
@[simp] theorem reloadHold_holdRem (k : CurNum) : (reloadHold k s).holdRem = s.holdRem.set k (tableHold s (entryOf s k)) := rfl
@[simp] theorem reloadHold_log (k : CurNum) : (reloadHold k s).log = s.log := rfl
@[simp] theorem reloadHold_resp (k : CurNum) : (reloadHold k s).resp = s.resp := rfl
@[simp] theorem reloadHold_ports (k : CurNum) : (reloadHold k s).ports = s.ports := rfl
@[simp] theorem reloadHold_coming (k : CurNum) : (reloadHold k s).coming = s.coming := rfl
@[simp] theorem reloadHold_dividers (k : CurNum) : (reloadHold k s).dividers = s.dividers := rfl

/-! ## decHold -/

@[simp] theorem decHold_drvState (k : CurNum) : (decHold k s).drvState = s.drvState := rfl
@[simp] theorem decHold_carrierHz (k : CurNum) : (decHold k s).carrierHz = s.carrierHz := rfl
@[simp] theorem decHold_alloc (k : CurNum) : (decHold k s).alloc = s.alloc := rfl
@[simp] theorem decHold_pscDiv (k : CurNum) : (decHold k s).pscDiv = s.pscDiv := rfl
@[simp] theorem decHold_maxDuty (k : CurNum) : (decHold k s).maxDuty = s.maxDuty := rfl
@[simp] theorem decHold_pscCnt (k : CurNum) : (decHold k s).pscCnt = s.pscCnt := rfl
@[simp] theorem decHold_cnt (k : CurNum) : (decHold k s).cnt = s.cnt := rfl
@[simp] theorem decHold_enabled (k : CurNum) : (decHold k s).enabled = s.enabled := rfl
@[simp] theorem decHold_dutyValue (k : CurNum) : (decHold k s).dutyValue = s.dutyValue := rfl
@[simp] theorem decHold_dutyActive (k : CurNum) : (decHold k s).dutyActive = s.dutyActive := rfl
@[simp] theorem decHold_faultHwinit (k : CurNum) : (decHold k s).faultHwinit = s.faultHwinit := rfl
@[simp] theorem decHold_faultInvalidStep (k : CurNum) : (decHold k s).faultInvalidStep = s.faultInvalidStep := rfl
@[simp] theorem decHold_faultUsage (k : CurNum) : (decHold k s).faultUsage = s.faultUsage := rfl
@[simp] theorem decHold_faultCause (k : CurNum) : (decHold k s).faultCause = s.faultCause := rfl
@[simp] theorem decHold_faultCur (k : CurNum) : (decHold k s).faultCur = s.faultCur := rfl
@[simp] theorem decHold_faultStep (k : CurNum) : (decHold k s).faultStep = s.faultStep := rfl
@[simp] theorem decHold_warnSat (k : CurNum) : (decHold k s).warnSat = s.warnSat := rfl
@[simp] theorem decHold_seqState (k : CurNum) : (decHold k s).seqState = s.seqState := rfl
@[simp] theorem decHold_seqMaxDuty (k : CurNum) : (decHold k s).seqMaxDuty = s.seqMaxDuty := rfl
@[simp] theorem decHold_stepFrac (k : CurNum) : (decHold k s).stepFrac = s.stepFrac := rfl
@[simp] theorem decHold_stepHold (k : CurNum) : (decHold k s).stepHold = s.stepHold := rfl
@[simp] theorem decHold_curBase (k : CurNum) : (decHold k s).curBase = s.curBase := rfl
@[simp] theorem decHold_curLen (k : CurNum) : (decHold k s).curLen = s.curLen := rfl
@[simp] theorem decHold_curStart (k : CurNum) : (decHold k s).curStart = s.curStart := rfl
@[simp] theorem decHold_curChm (k : CurNum) : (decHold k s).curChm = s.curChm := rfl
@[simp] theorem decHold_idx (k : CurNum) : (decHold k s).idx = s.idx := rfl
@[simp] theorem decHold_running (k : CurNum) : (decHold k s).running = s.running := rfl
@[simp] theorem decHold_holdRem (k : CurNum) : (decHold k s).holdRem = s.holdRem.set k (s.holdRem[k.val] - 1) := rfl
@[simp] theorem decHold_log (k : CurNum) : (decHold k s).log = s.log := rfl
@[simp] theorem decHold_resp (k : CurNum) : (decHold k s).resp = s.resp := rfl
@[simp] theorem decHold_ports (k : CurNum) : (decHold k s).ports = s.ports := rfl
@[simp] theorem decHold_coming (k : CurNum) : (decHold k s).coming = s.coming := rfl
@[simp] theorem decHold_dividers (k : CurNum) : (decHold k s).dividers = s.dividers := rfl

end Sys2Proof.Machine
end

