-- ==== Sys2Proof/Laws/Frames.lean ====
section
/-! SUPPORT. Frames of the composite operations: the fields that a fatal error, a duty write, an apply, the start of a
cursor, an advance and a tick leave as they were. -/

namespace Sys2Proof.Machine

variable (s : State)

/-! ## endPart -/

@[simp] theorem endPart_carrierHz (e : FatalError) : (endPart e s).carrierHz = s.carrierHz := by
  unfold endPart; split <;> rfl
@[simp] theorem endPart_alloc (e : FatalError) : (endPart e s).alloc = s.alloc := by
  unfold endPart; split <;> rfl
@[simp] theorem endPart_pscDiv (e : FatalError) : (endPart e s).pscDiv = s.pscDiv := by
  unfold endPart; split <;> rfl
@[simp] theorem endPart_maxDuty (e : FatalError) : (endPart e s).maxDuty = s.maxDuty := by
  unfold endPart; split <;> rfl
@[simp] theorem endPart_pscCnt (e : FatalError) : (endPart e s).pscCnt = s.pscCnt := by
  unfold endPart; split <;> rfl
@[simp] theorem endPart_cnt (e : FatalError) : (endPart e s).cnt = s.cnt := by
  unfold endPart; split <;> rfl
@[simp] theorem endPart_enabled (e : FatalError) : (endPart e s).enabled = s.enabled := by
  unfold endPart; split <;> rfl
@[simp] theorem endPart_dutyValue (e : FatalError) : (endPart e s).dutyValue = s.dutyValue := by
  unfold endPart; split <;> rfl
@[simp] theorem endPart_dutyActive (e : FatalError) : (endPart e s).dutyActive = s.dutyActive := by
  unfold endPart; split <;> rfl
@[simp] theorem endPart_faultUsage (e : FatalError) : (endPart e s).faultUsage = s.faultUsage := by
  unfold endPart; split <;> rfl
@[simp] theorem endPart_faultCause (e : FatalError) : (endPart e s).faultCause = s.faultCause := by
  unfold endPart; split <;> rfl
@[simp] theorem endPart_faultCur (e : FatalError) : (endPart e s).faultCur = s.faultCur := by
  unfold endPart; split <;> rfl
@[simp] theorem endPart_faultStep (e : FatalError) : (endPart e s).faultStep = s.faultStep := by
  unfold endPart; split <;> rfl
@[simp] theorem endPart_warnSat (e : FatalError) : (endPart e s).warnSat = s.warnSat := by
  unfold endPart; split <;> rfl
@[simp] theorem endPart_seqMaxDuty (e : FatalError) : (endPart e s).seqMaxDuty = s.seqMaxDuty := by
  unfold endPart; split <;> rfl
@[simp] theorem endPart_stepFrac (e : FatalError) : (endPart e s).stepFrac = s.stepFrac := by
  unfold endPart; split <;> rfl
@[simp] theorem endPart_stepHold (e : FatalError) : (endPart e s).stepHold = s.stepHold := by
  unfold endPart; split <;> rfl
@[simp] theorem endPart_curBase (e : FatalError) : (endPart e s).curBase = s.curBase := by
  unfold endPart; split <;> rfl
@[simp] theorem endPart_curLen (e : FatalError) : (endPart e s).curLen = s.curLen := by
  unfold endPart; split <;> rfl
@[simp] theorem endPart_curStart (e : FatalError) : (endPart e s).curStart = s.curStart := by
  unfold endPart; split <;> rfl
@[simp] theorem endPart_curChm (e : FatalError) : (endPart e s).curChm = s.curChm := by
  unfold endPart; split <;> rfl
@[simp] theorem endPart_idx (e : FatalError) : (endPart e s).idx = s.idx := by
  unfold endPart; split <;> rfl
@[simp] theorem endPart_running (e : FatalError) : (endPart e s).running = s.running := by
  unfold endPart; split <;> rfl
@[simp] theorem endPart_holdRem (e : FatalError) : (endPart e s).holdRem = s.holdRem := by
  unfold endPart; split <;> rfl
@[simp] theorem endPart_log (e : FatalError) : (endPart e s).log = s.log := by
  unfold endPart; split <;> rfl
@[simp] theorem endPart_resp (e : FatalError) : (endPart e s).resp = s.resp := by
  unfold endPart; split <;> rfl
@[simp] theorem endPart_ports (e : FatalError) : (endPart e s).ports = s.ports := by
  unfold endPart; split <;> rfl
@[simp] theorem endPart_coming (e : FatalError) : (endPart e s).coming = s.coming := by
  unfold endPart; split <;> rfl
@[simp] theorem endPart_dividers (e : FatalError) : (endPart e s).dividers = s.dividers := by
  unfold endPart; split <;> rfl

/-! ## raise -/

@[simp] theorem raise_carrierHz (e : FatalError) : (raise e s).carrierHz = s.carrierHz := by
  simp [raise]
@[simp] theorem raise_alloc (e : FatalError) : (raise e s).alloc = s.alloc := by
  simp [raise]
@[simp] theorem raise_pscDiv (e : FatalError) : (raise e s).pscDiv = s.pscDiv := by
  simp [raise]
@[simp] theorem raise_maxDuty (e : FatalError) : (raise e s).maxDuty = s.maxDuty := by
  simp [raise]
@[simp] theorem raise_pscCnt (e : FatalError) : (raise e s).pscCnt = s.pscCnt := by
  simp [raise]
@[simp] theorem raise_cnt (e : FatalError) : (raise e s).cnt = s.cnt := by
  simp [raise]
@[simp] theorem raise_enabled (e : FatalError) : (raise e s).enabled = s.enabled := by
  simp [raise]
@[simp] theorem raise_dutyValue (e : FatalError) : (raise e s).dutyValue = s.dutyValue := by
  simp [raise]
@[simp] theorem raise_dutyActive (e : FatalError) : (raise e s).dutyActive = s.dutyActive := by
  simp [raise]
@[simp] theorem raise_faultUsage (e : FatalError) : (raise e s).faultUsage = s.faultUsage := by
  simp [raise]
@[simp] theorem raise_warnSat (e : FatalError) : (raise e s).warnSat = s.warnSat := by
  simp [raise]
@[simp] theorem raise_seqMaxDuty (e : FatalError) : (raise e s).seqMaxDuty = s.seqMaxDuty := by
  simp [raise]
@[simp] theorem raise_stepFrac (e : FatalError) : (raise e s).stepFrac = s.stepFrac := by
  simp [raise]
@[simp] theorem raise_stepHold (e : FatalError) : (raise e s).stepHold = s.stepHold := by
  simp [raise]
@[simp] theorem raise_curBase (e : FatalError) : (raise e s).curBase = s.curBase := by
  simp [raise]
@[simp] theorem raise_curLen (e : FatalError) : (raise e s).curLen = s.curLen := by
  simp [raise]
@[simp] theorem raise_curStart (e : FatalError) : (raise e s).curStart = s.curStart := by
  simp [raise]
@[simp] theorem raise_curChm (e : FatalError) : (raise e s).curChm = s.curChm := by
  simp [raise]
@[simp] theorem raise_idx (e : FatalError) : (raise e s).idx = s.idx := by
  simp [raise]
@[simp] theorem raise_running (e : FatalError) : (raise e s).running = s.running := by
  simp [raise]
@[simp] theorem raise_holdRem (e : FatalError) : (raise e s).holdRem = s.holdRem := by
  simp [raise]
@[simp] theorem raise_log (e : FatalError) : (raise e s).log = s.log := by
  simp [raise]
@[simp] theorem raise_ports (e : FatalError) : (raise e s).ports = s.ports := by
  simp [raise]
@[simp] theorem raise_coming (e : FatalError) : (raise e s).coming = s.coming := by
  simp [raise]
@[simp] theorem raise_dividers (e : FatalError) : (raise e s).dividers = s.dividers := by
  simp [raise]

/-! ## drvSetDuty -/

@[simp] theorem drvSetDuty_drvState (n : Chan) (v : Int) : (drvSetDuty n v s).drvState = s.drvState := by
  unfold drvSetDuty; split <;> rfl
@[simp] theorem drvSetDuty_carrierHz (n : Chan) (v : Int) : (drvSetDuty n v s).carrierHz = s.carrierHz := by
  unfold drvSetDuty; split <;> rfl
@[simp] theorem drvSetDuty_alloc (n : Chan) (v : Int) : (drvSetDuty n v s).alloc = s.alloc := by
  unfold drvSetDuty; split <;> rfl
@[simp] theorem drvSetDuty_pscDiv (n : Chan) (v : Int) : (drvSetDuty n v s).pscDiv = s.pscDiv := by
  unfold drvSetDuty; split <;> rfl
@[simp] theorem drvSetDuty_maxDuty (n : Chan) (v : Int) : (drvSetDuty n v s).maxDuty = s.maxDuty := by
  unfold drvSetDuty; split <;> rfl
@[simp] theorem drvSetDuty_pscCnt (n : Chan) (v : Int) : (drvSetDuty n v s).pscCnt = s.pscCnt := by
  unfold drvSetDuty; split <;> rfl
@[simp] theorem drvSetDuty_cnt (n : Chan) (v : Int) : (drvSetDuty n v s).cnt = s.cnt := by
  unfold drvSetDuty; split <;> rfl
@[simp] theorem drvSetDuty_enabled (n : Chan) (v : Int) : (drvSetDuty n v s).enabled = s.enabled := by
  unfold drvSetDuty; split <;> rfl
@[simp] theorem drvSetDuty_dutyActive (n : Chan) (v : Int) : (drvSetDuty n v s).dutyActive = s.dutyActive := by
  unfold drvSetDuty; split <;> rfl
@[simp] theorem drvSetDuty_faultHwinit (n : Chan) (v : Int) : (drvSetDuty n v s).faultHwinit = s.faultHwinit := by
  unfold drvSetDuty; split <;> rfl
@[simp] theorem drvSetDuty_faultInvalidStep (n : Chan) (v : Int) : (drvSetDuty n v s).faultInvalidStep = s.faultInvalidStep := by
  unfold drvSetDuty; split <;> rfl
@[simp] theorem drvSetDuty_faultUsage (n : Chan) (v : Int) : (drvSetDuty n v s).faultUsage = s.faultUsage := by
  unfold drvSetDuty; split <;> rfl
@[simp] theorem drvSetDuty_faultCause (n : Chan) (v : Int) : (drvSetDuty n v s).faultCause = s.faultCause := by
  unfold drvSetDuty; split <;> rfl
@[simp] theorem drvSetDuty_faultCur (n : Chan) (v : Int) : (drvSetDuty n v s).faultCur = s.faultCur := by
  unfold drvSetDuty; split <;> rfl
@[simp] theorem drvSetDuty_faultStep (n : Chan) (v : Int) : (drvSetDuty n v s).faultStep = s.faultStep := by
  unfold drvSetDuty; split <;> rfl
@[simp] theorem drvSetDuty_seqState (n : Chan) (v : Int) : (drvSetDuty n v s).seqState = s.seqState := by
  unfold drvSetDuty; split <;> rfl
@[simp] theorem drvSetDuty_seqMaxDuty (n : Chan) (v : Int) : (drvSetDuty n v s).seqMaxDuty = s.seqMaxDuty := by
  unfold drvSetDuty; split <;> rfl
@[simp] theorem drvSetDuty_stepFrac (n : Chan) (v : Int) : (drvSetDuty n v s).stepFrac = s.stepFrac := by
  unfold drvSetDuty; split <;> rfl
@[simp] theorem drvSetDuty_stepHold (n : Chan) (v : Int) : (drvSetDuty n v s).stepHold = s.stepHold := by
  unfold drvSetDuty; split <;> rfl
@[simp] theorem drvSetDuty_curBase (n : Chan) (v : Int) : (drvSetDuty n v s).curBase = s.curBase := by
  unfold drvSetDuty; split <;> rfl
@[simp] theorem drvSetDuty_curLen (n : Chan) (v : Int) : (drvSetDuty n v s).curLen = s.curLen := by
  unfold drvSetDuty; split <;> rfl
@[simp] theorem drvSetDuty_curStart (n : Chan) (v : Int) : (drvSetDuty n v s).curStart = s.curStart := by
  unfold drvSetDuty; split <;> rfl
@[simp] theorem drvSetDuty_curChm (n : Chan) (v : Int) : (drvSetDuty n v s).curChm = s.curChm := by
  unfold drvSetDuty; split <;> rfl
@[simp] theorem drvSetDuty_idx (n : Chan) (v : Int) : (drvSetDuty n v s).idx = s.idx := by
  unfold drvSetDuty; split <;> rfl
@[simp] theorem drvSetDuty_running (n : Chan) (v : Int) : (drvSetDuty n v s).running = s.running := by
  unfold drvSetDuty; split <;> rfl
@[simp] theorem drvSetDuty_holdRem (n : Chan) (v : Int) : (drvSetDuty n v s).holdRem = s.holdRem := by
  unfold drvSetDuty; split <;> rfl
@[simp] theorem drvSetDuty_resp (n : Chan) (v : Int) : (drvSetDuty n v s).resp = s.resp := by
  unfold drvSetDuty; split <;> rfl
@[simp] theorem drvSetDuty_ports (n : Chan) (v : Int) : (drvSetDuty n v s).ports = s.ports := by
  unfold drvSetDuty; split <;> rfl
@[simp] theorem drvSetDuty_coming (n : Chan) (v : Int) : (drvSetDuty n v s).coming = s.coming := by
  unfold drvSetDuty; split <;> rfl
@[simp] theorem drvSetDuty_dividers (n : Chan) (v : Int) : (drvSetDuty n v s).dividers = s.dividers := by
  unfold drvSetDuty; split <;> rfl

/-! ## applyChannel -/

@[simp] theorem applyChannel_drvState (k : CurNum) (f : Word) (v : Nat) (n : Chan) : (applyChannel k f v n s).drvState = s.drvState := by
  unfold applyChannel; split <;> simp
@[simp] theorem applyChannel_carrierHz (k : CurNum) (f : Word) (v : Nat) (n : Chan) : (applyChannel k f v n s).carrierHz = s.carrierHz := by
  unfold applyChannel; split <;> simp
@[simp] theorem applyChannel_alloc (k : CurNum) (f : Word) (v : Nat) (n : Chan) : (applyChannel k f v n s).alloc = s.alloc := by
  unfold applyChannel; split <;> simp
@[simp] theorem applyChannel_pscDiv (k : CurNum) (f : Word) (v : Nat) (n : Chan) : (applyChannel k f v n s).pscDiv = s.pscDiv := by
  unfold applyChannel; split <;> simp
@[simp] theorem applyChannel_maxDuty (k : CurNum) (f : Word) (v : Nat) (n : Chan) : (applyChannel k f v n s).maxDuty = s.maxDuty := by
  unfold applyChannel; split <;> simp
@[simp] theorem applyChannel_pscCnt (k : CurNum) (f : Word) (v : Nat) (n : Chan) : (applyChannel k f v n s).pscCnt = s.pscCnt := by
  unfold applyChannel; split <;> simp
@[simp] theorem applyChannel_cnt (k : CurNum) (f : Word) (v : Nat) (n : Chan) : (applyChannel k f v n s).cnt = s.cnt := by
  unfold applyChannel; split <;> simp
@[simp] theorem applyChannel_enabled (k : CurNum) (f : Word) (v : Nat) (n : Chan) : (applyChannel k f v n s).enabled = s.enabled := by
  unfold applyChannel; split <;> simp
@[simp] theorem applyChannel_dutyActive (k : CurNum) (f : Word) (v : Nat) (n : Chan) : (applyChannel k f v n s).dutyActive = s.dutyActive := by
  unfold applyChannel; split <;> simp
@[simp] theorem applyChannel_faultHwinit (k : CurNum) (f : Word) (v : Nat) (n : Chan) : (applyChannel k f v n s).faultHwinit = s.faultHwinit := by
  unfold applyChannel; split <;> simp
@[simp] theorem applyChannel_faultInvalidStep (k : CurNum) (f : Word) (v : Nat) (n : Chan) : (applyChannel k f v n s).faultInvalidStep = s.faultInvalidStep := by
  unfold applyChannel; split <;> simp
@[simp] theorem applyChannel_faultUsage (k : CurNum) (f : Word) (v : Nat) (n : Chan) : (applyChannel k f v n s).faultUsage = s.faultUsage := by
  unfold applyChannel; split <;> simp
@[simp] theorem applyChannel_faultCause (k : CurNum) (f : Word) (v : Nat) (n : Chan) : (applyChannel k f v n s).faultCause = s.faultCause := by
  unfold applyChannel; split <;> simp
@[simp] theorem applyChannel_faultCur (k : CurNum) (f : Word) (v : Nat) (n : Chan) : (applyChannel k f v n s).faultCur = s.faultCur := by
  unfold applyChannel; split <;> simp
@[simp] theorem applyChannel_faultStep (k : CurNum) (f : Word) (v : Nat) (n : Chan) : (applyChannel k f v n s).faultStep = s.faultStep := by
  unfold applyChannel; split <;> simp
@[simp] theorem applyChannel_seqState (k : CurNum) (f : Word) (v : Nat) (n : Chan) : (applyChannel k f v n s).seqState = s.seqState := by
  unfold applyChannel; split <;> simp
@[simp] theorem applyChannel_seqMaxDuty (k : CurNum) (f : Word) (v : Nat) (n : Chan) : (applyChannel k f v n s).seqMaxDuty = s.seqMaxDuty := by
  unfold applyChannel; split <;> simp
@[simp] theorem applyChannel_stepFrac (k : CurNum) (f : Word) (v : Nat) (n : Chan) : (applyChannel k f v n s).stepFrac = s.stepFrac := by
  unfold applyChannel; split <;> simp
@[simp] theorem applyChannel_stepHold (k : CurNum) (f : Word) (v : Nat) (n : Chan) : (applyChannel k f v n s).stepHold = s.stepHold := by
  unfold applyChannel; split <;> simp
@[simp] theorem applyChannel_curBase (k : CurNum) (f : Word) (v : Nat) (n : Chan) : (applyChannel k f v n s).curBase = s.curBase := by
  unfold applyChannel; split <;> simp
@[simp] theorem applyChannel_curLen (k : CurNum) (f : Word) (v : Nat) (n : Chan) : (applyChannel k f v n s).curLen = s.curLen := by
  unfold applyChannel; split <;> simp
@[simp] theorem applyChannel_curStart (k : CurNum) (f : Word) (v : Nat) (n : Chan) : (applyChannel k f v n s).curStart = s.curStart := by
  unfold applyChannel; split <;> simp
@[simp] theorem applyChannel_curChm (k : CurNum) (f : Word) (v : Nat) (n : Chan) : (applyChannel k f v n s).curChm = s.curChm := by
  unfold applyChannel; split <;> simp
@[simp] theorem applyChannel_idx (k : CurNum) (f : Word) (v : Nat) (n : Chan) : (applyChannel k f v n s).idx = s.idx := by
  unfold applyChannel; split <;> simp
@[simp] theorem applyChannel_running (k : CurNum) (f : Word) (v : Nat) (n : Chan) : (applyChannel k f v n s).running = s.running := by
  unfold applyChannel; split <;> simp
@[simp] theorem applyChannel_holdRem (k : CurNum) (f : Word) (v : Nat) (n : Chan) : (applyChannel k f v n s).holdRem = s.holdRem := by
  unfold applyChannel; split <;> simp
@[simp] theorem applyChannel_resp (k : CurNum) (f : Word) (v : Nat) (n : Chan) : (applyChannel k f v n s).resp = s.resp := by
  unfold applyChannel; split <;> simp
@[simp] theorem applyChannel_ports (k : CurNum) (f : Word) (v : Nat) (n : Chan) : (applyChannel k f v n s).ports = s.ports := by
  unfold applyChannel; split <;> simp
@[simp] theorem applyChannel_coming (k : CurNum) (f : Word) (v : Nat) (n : Chan) : (applyChannel k f v n s).coming = s.coming := by
  unfold applyChannel; split <;> simp
@[simp] theorem applyChannel_dividers (k : CurNum) (f : Word) (v : Nat) (n : Chan) : (applyChannel k f v n s).dividers = s.dividers := by
  unfold applyChannel; split <;> simp

/-! ## applyStep -/

@[simp] theorem applyStep_drvState (k : CurNum) : (applyStep k s).drvState = s.drvState := by
  simp [applyStep]
@[simp] theorem applyStep_carrierHz (k : CurNum) : (applyStep k s).carrierHz = s.carrierHz := by
  simp [applyStep]
@[simp] theorem applyStep_alloc (k : CurNum) : (applyStep k s).alloc = s.alloc := by
  simp [applyStep]
@[simp] theorem applyStep_pscDiv (k : CurNum) : (applyStep k s).pscDiv = s.pscDiv := by
  simp [applyStep]
@[simp] theorem applyStep_maxDuty (k : CurNum) : (applyStep k s).maxDuty = s.maxDuty := by
  simp [applyStep]
@[simp] theorem applyStep_pscCnt (k : CurNum) : (applyStep k s).pscCnt = s.pscCnt := by
  simp [applyStep]
@[simp] theorem applyStep_cnt (k : CurNum) : (applyStep k s).cnt = s.cnt := by
  simp [applyStep]
@[simp] theorem applyStep_enabled (k : CurNum) : (applyStep k s).enabled = s.enabled := by
  simp [applyStep]
@[simp] theorem applyStep_dutyActive (k : CurNum) : (applyStep k s).dutyActive = s.dutyActive := by
  simp [applyStep]
@[simp] theorem applyStep_faultHwinit (k : CurNum) : (applyStep k s).faultHwinit = s.faultHwinit := by
  simp [applyStep]
@[simp] theorem applyStep_faultInvalidStep (k : CurNum) : (applyStep k s).faultInvalidStep = s.faultInvalidStep := by
  simp [applyStep]
@[simp] theorem applyStep_faultUsage (k : CurNum) : (applyStep k s).faultUsage = s.faultUsage := by
  simp [applyStep]
@[simp] theorem applyStep_faultCause (k : CurNum) : (applyStep k s).faultCause = s.faultCause := by
  simp [applyStep]
@[simp] theorem applyStep_faultCur (k : CurNum) : (applyStep k s).faultCur = s.faultCur := by
  simp [applyStep]
@[simp] theorem applyStep_faultStep (k : CurNum) : (applyStep k s).faultStep = s.faultStep := by
  simp [applyStep]
@[simp] theorem applyStep_seqState (k : CurNum) : (applyStep k s).seqState = s.seqState := by
  simp [applyStep]
@[simp] theorem applyStep_seqMaxDuty (k : CurNum) : (applyStep k s).seqMaxDuty = s.seqMaxDuty := by
  simp [applyStep]
@[simp] theorem applyStep_stepFrac (k : CurNum) : (applyStep k s).stepFrac = s.stepFrac := by
  simp [applyStep]
@[simp] theorem applyStep_stepHold (k : CurNum) : (applyStep k s).stepHold = s.stepHold := by
  simp [applyStep]
@[simp] theorem applyStep_curBase (k : CurNum) : (applyStep k s).curBase = s.curBase := by
  simp [applyStep]
@[simp] theorem applyStep_curLen (k : CurNum) : (applyStep k s).curLen = s.curLen := by
  simp [applyStep]
@[simp] theorem applyStep_curStart (k : CurNum) : (applyStep k s).curStart = s.curStart := by
  simp [applyStep]
@[simp] theorem applyStep_curChm (k : CurNum) : (applyStep k s).curChm = s.curChm := by
  simp [applyStep]
@[simp] theorem applyStep_idx (k : CurNum) : (applyStep k s).idx = s.idx := by
  simp [applyStep]
@[simp] theorem applyStep_running (k : CurNum) : (applyStep k s).running = s.running := by
  simp [applyStep]
@[simp] theorem applyStep_holdRem (k : CurNum) : (applyStep k s).holdRem = s.holdRem := by
  simp [applyStep]
@[simp] theorem applyStep_resp (k : CurNum) : (applyStep k s).resp = s.resp := by
  simp [applyStep]
@[simp] theorem applyStep_ports (k : CurNum) : (applyStep k s).ports = s.ports := by
  simp [applyStep]
@[simp] theorem applyStep_coming (k : CurNum) : (applyStep k s).coming = s.coming := by
  simp [applyStep]
@[simp] theorem applyStep_dividers (k : CurNum) : (applyStep k s).dividers = s.dividers := by
  simp [applyStep]

/-! ## startCursor -/

@[simp] theorem startCursor_drvState (sel : Set2) (k : CurNum) : (startCursor sel k s).drvState = s.drvState := by
  unfold startCursor; split <;> simp
@[simp] theorem startCursor_carrierHz (sel : Set2) (k : CurNum) : (startCursor sel k s).carrierHz = s.carrierHz := by
  unfold startCursor; split <;> simp
@[simp] theorem startCursor_alloc (sel : Set2) (k : CurNum) : (startCursor sel k s).alloc = s.alloc := by
  unfold startCursor; split <;> simp
@[simp] theorem startCursor_pscDiv (sel : Set2) (k : CurNum) : (startCursor sel k s).pscDiv = s.pscDiv := by
  unfold startCursor; split <;> simp
@[simp] theorem startCursor_maxDuty (sel : Set2) (k : CurNum) : (startCursor sel k s).maxDuty = s.maxDuty := by
  unfold startCursor; split <;> simp
@[simp] theorem startCursor_pscCnt (sel : Set2) (k : CurNum) : (startCursor sel k s).pscCnt = s.pscCnt := by
  unfold startCursor; split <;> simp
@[simp] theorem startCursor_cnt (sel : Set2) (k : CurNum) : (startCursor sel k s).cnt = s.cnt := by
  unfold startCursor; split <;> simp
@[simp] theorem startCursor_enabled (sel : Set2) (k : CurNum) : (startCursor sel k s).enabled = s.enabled := by
  unfold startCursor; split <;> simp
@[simp] theorem startCursor_dutyActive (sel : Set2) (k : CurNum) : (startCursor sel k s).dutyActive = s.dutyActive := by
  unfold startCursor; split <;> simp
@[simp] theorem startCursor_faultHwinit (sel : Set2) (k : CurNum) : (startCursor sel k s).faultHwinit = s.faultHwinit := by
  unfold startCursor; split <;> simp
@[simp] theorem startCursor_faultInvalidStep (sel : Set2) (k : CurNum) : (startCursor sel k s).faultInvalidStep = s.faultInvalidStep := by
  unfold startCursor; split <;> simp
@[simp] theorem startCursor_faultUsage (sel : Set2) (k : CurNum) : (startCursor sel k s).faultUsage = s.faultUsage := by
  unfold startCursor; split <;> simp
@[simp] theorem startCursor_faultCause (sel : Set2) (k : CurNum) : (startCursor sel k s).faultCause = s.faultCause := by
  unfold startCursor; split <;> simp
@[simp] theorem startCursor_faultCur (sel : Set2) (k : CurNum) : (startCursor sel k s).faultCur = s.faultCur := by
  unfold startCursor; split <;> simp
@[simp] theorem startCursor_faultStep (sel : Set2) (k : CurNum) : (startCursor sel k s).faultStep = s.faultStep := by
  unfold startCursor; split <;> simp
@[simp] theorem startCursor_seqState (sel : Set2) (k : CurNum) : (startCursor sel k s).seqState = s.seqState := by
  unfold startCursor; split <;> simp
@[simp] theorem startCursor_seqMaxDuty (sel : Set2) (k : CurNum) : (startCursor sel k s).seqMaxDuty = s.seqMaxDuty := by
  unfold startCursor; split <;> simp
@[simp] theorem startCursor_stepFrac (sel : Set2) (k : CurNum) : (startCursor sel k s).stepFrac = s.stepFrac := by
  unfold startCursor; split <;> simp
@[simp] theorem startCursor_stepHold (sel : Set2) (k : CurNum) : (startCursor sel k s).stepHold = s.stepHold := by
  unfold startCursor; split <;> simp
@[simp] theorem startCursor_curBase (sel : Set2) (k : CurNum) : (startCursor sel k s).curBase = s.curBase := by
  unfold startCursor; split <;> simp
@[simp] theorem startCursor_curLen (sel : Set2) (k : CurNum) : (startCursor sel k s).curLen = s.curLen := by
  unfold startCursor; split <;> simp
@[simp] theorem startCursor_curStart (sel : Set2) (k : CurNum) : (startCursor sel k s).curStart = s.curStart := by
  unfold startCursor; split <;> simp
@[simp] theorem startCursor_curChm (sel : Set2) (k : CurNum) : (startCursor sel k s).curChm = s.curChm := by
  unfold startCursor; split <;> simp
@[simp] theorem startCursor_resp (sel : Set2) (k : CurNum) : (startCursor sel k s).resp = s.resp := by
  unfold startCursor; split <;> simp
@[simp] theorem startCursor_ports (sel : Set2) (k : CurNum) : (startCursor sel k s).ports = s.ports := by
  unfold startCursor; split <;> simp
@[simp] theorem startCursor_coming (sel : Set2) (k : CurNum) : (startCursor sel k s).coming = s.coming := by
  unfold startCursor; split <;> simp
@[simp] theorem startCursor_dividers (sel : Set2) (k : CurNum) : (startCursor sel k s).dividers = s.dividers := by
  unfold startCursor; split <;> simp

/-! ## advance -/

@[simp] theorem advance_drvState (k : CurNum) : (advance k s).drvState = s.drvState := by
  simp [advance]
@[simp] theorem advance_carrierHz (k : CurNum) : (advance k s).carrierHz = s.carrierHz := by
  simp [advance]
@[simp] theorem advance_alloc (k : CurNum) : (advance k s).alloc = s.alloc := by
  simp [advance]
@[simp] theorem advance_pscDiv (k : CurNum) : (advance k s).pscDiv = s.pscDiv := by
  simp [advance]
@[simp] theorem advance_maxDuty (k : CurNum) : (advance k s).maxDuty = s.maxDuty := by
  simp [advance]
@[simp] theorem advance_pscCnt (k : CurNum) : (advance k s).pscCnt = s.pscCnt := by
  simp [advance]
@[simp] theorem advance_cnt (k : CurNum) : (advance k s).cnt = s.cnt := by
  simp [advance]
@[simp] theorem advance_enabled (k : CurNum) : (advance k s).enabled = s.enabled := by
  simp [advance]
@[simp] theorem advance_dutyActive (k : CurNum) : (advance k s).dutyActive = s.dutyActive := by
  simp [advance]
@[simp] theorem advance_faultHwinit (k : CurNum) : (advance k s).faultHwinit = s.faultHwinit := by
  simp [advance]
@[simp] theorem advance_faultInvalidStep (k : CurNum) : (advance k s).faultInvalidStep = s.faultInvalidStep := by
  simp [advance]
@[simp] theorem advance_faultUsage (k : CurNum) : (advance k s).faultUsage = s.faultUsage := by
  simp [advance]
@[simp] theorem advance_faultCause (k : CurNum) : (advance k s).faultCause = s.faultCause := by
  simp [advance]
@[simp] theorem advance_faultCur (k : CurNum) : (advance k s).faultCur = s.faultCur := by
  simp [advance]
@[simp] theorem advance_faultStep (k : CurNum) : (advance k s).faultStep = s.faultStep := by
  simp [advance]
@[simp] theorem advance_seqState (k : CurNum) : (advance k s).seqState = s.seqState := by
  simp [advance]
@[simp] theorem advance_seqMaxDuty (k : CurNum) : (advance k s).seqMaxDuty = s.seqMaxDuty := by
  simp [advance]
@[simp] theorem advance_stepFrac (k : CurNum) : (advance k s).stepFrac = s.stepFrac := by
  simp [advance]
@[simp] theorem advance_stepHold (k : CurNum) : (advance k s).stepHold = s.stepHold := by
  simp [advance]
@[simp] theorem advance_curBase (k : CurNum) : (advance k s).curBase = s.curBase := by
  simp [advance]
@[simp] theorem advance_curLen (k : CurNum) : (advance k s).curLen = s.curLen := by
  simp [advance]
@[simp] theorem advance_curStart (k : CurNum) : (advance k s).curStart = s.curStart := by
  simp [advance]
@[simp] theorem advance_curChm (k : CurNum) : (advance k s).curChm = s.curChm := by
  simp [advance]
@[simp] theorem advance_running (k : CurNum) : (advance k s).running = s.running := by
  simp [advance]
@[simp] theorem advance_resp (k : CurNum) : (advance k s).resp = s.resp := by
  simp [advance]
@[simp] theorem advance_ports (k : CurNum) : (advance k s).ports = s.ports := by
  simp [advance]
@[simp] theorem advance_coming (k : CurNum) : (advance k s).coming = s.coming := by
  simp [advance]
@[simp] theorem advance_dividers (k : CurNum) : (advance k s).dividers = s.dividers := by
  simp [advance]

/-! ## cursorTick -/

@[simp] theorem cursorTick_drvState (k : CurNum) : (cursorTick k s).drvState = s.drvState := by
  simp only [cursorTick]; repeat' split
  all_goals simp
@[simp] theorem cursorTick_carrierHz (k : CurNum) : (cursorTick k s).carrierHz = s.carrierHz := by
  simp only [cursorTick]; repeat' split
  all_goals simp
@[simp] theorem cursorTick_alloc (k : CurNum) : (cursorTick k s).alloc = s.alloc := by
  simp only [cursorTick]; repeat' split
  all_goals simp
@[simp] theorem cursorTick_pscDiv (k : CurNum) : (cursorTick k s).pscDiv = s.pscDiv := by
  simp only [cursorTick]; repeat' split
  all_goals simp
@[simp] theorem cursorTick_maxDuty (k : CurNum) : (cursorTick k s).maxDuty = s.maxDuty := by
  simp only [cursorTick]; repeat' split
  all_goals simp
@[simp] theorem cursorTick_pscCnt (k : CurNum) : (cursorTick k s).pscCnt = s.pscCnt := by
  simp only [cursorTick]; repeat' split
  all_goals simp
@[simp] theorem cursorTick_cnt (k : CurNum) : (cursorTick k s).cnt = s.cnt := by
  simp only [cursorTick]; repeat' split
  all_goals simp
@[simp] theorem cursorTick_enabled (k : CurNum) : (cursorTick k s).enabled = s.enabled := by
  simp only [cursorTick]; repeat' split
  all_goals simp
@[simp] theorem cursorTick_dutyActive (k : CurNum) : (cursorTick k s).dutyActive = s.dutyActive := by
  simp only [cursorTick]; repeat' split
  all_goals simp
@[simp] theorem cursorTick_faultHwinit (k : CurNum) : (cursorTick k s).faultHwinit = s.faultHwinit := by
  simp only [cursorTick]; repeat' split
  all_goals simp
@[simp] theorem cursorTick_faultInvalidStep (k : CurNum) : (cursorTick k s).faultInvalidStep = s.faultInvalidStep := by
  simp only [cursorTick]; repeat' split
  all_goals simp
@[simp] theorem cursorTick_faultUsage (k : CurNum) : (cursorTick k s).faultUsage = s.faultUsage := by
  simp only [cursorTick]; repeat' split
  all_goals simp
@[simp] theorem cursorTick_faultCause (k : CurNum) : (cursorTick k s).faultCause = s.faultCause := by
  simp only [cursorTick]; repeat' split
  all_goals simp
@[simp] theorem cursorTick_faultCur (k : CurNum) : (cursorTick k s).faultCur = s.faultCur := by
  simp only [cursorTick]; repeat' split
  all_goals simp
@[simp] theorem cursorTick_faultStep (k : CurNum) : (cursorTick k s).faultStep = s.faultStep := by
  simp only [cursorTick]; repeat' split
  all_goals simp
@[simp] theorem cursorTick_seqState (k : CurNum) : (cursorTick k s).seqState = s.seqState := by
  simp only [cursorTick]; repeat' split
  all_goals simp
@[simp] theorem cursorTick_seqMaxDuty (k : CurNum) : (cursorTick k s).seqMaxDuty = s.seqMaxDuty := by
  simp only [cursorTick]; repeat' split
  all_goals simp
@[simp] theorem cursorTick_stepFrac (k : CurNum) : (cursorTick k s).stepFrac = s.stepFrac := by
  simp only [cursorTick]; repeat' split
  all_goals simp
@[simp] theorem cursorTick_stepHold (k : CurNum) : (cursorTick k s).stepHold = s.stepHold := by
  simp only [cursorTick]; repeat' split
  all_goals simp
@[simp] theorem cursorTick_curBase (k : CurNum) : (cursorTick k s).curBase = s.curBase := by
  simp only [cursorTick]; repeat' split
  all_goals simp
@[simp] theorem cursorTick_curLen (k : CurNum) : (cursorTick k s).curLen = s.curLen := by
  simp only [cursorTick]; repeat' split
  all_goals simp
@[simp] theorem cursorTick_curStart (k : CurNum) : (cursorTick k s).curStart = s.curStart := by
  simp only [cursorTick]; repeat' split
  all_goals simp
@[simp] theorem cursorTick_curChm (k : CurNum) : (cursorTick k s).curChm = s.curChm := by
  simp only [cursorTick]; repeat' split
  all_goals simp
@[simp] theorem cursorTick_running (k : CurNum) : (cursorTick k s).running = s.running := by
  simp only [cursorTick]; repeat' split
  all_goals simp
@[simp] theorem cursorTick_resp (k : CurNum) : (cursorTick k s).resp = s.resp := by
  simp only [cursorTick]; repeat' split
  all_goals simp
@[simp] theorem cursorTick_ports (k : CurNum) : (cursorTick k s).ports = s.ports := by
  simp only [cursorTick]; repeat' split
  all_goals simp
@[simp] theorem cursorTick_coming (k : CurNum) : (cursorTick k s).coming = s.coming := by
  simp only [cursorTick]; repeat' split
  all_goals simp
@[simp] theorem cursorTick_dividers (k : CurNum) : (cursorTick k s).dividers = s.dividers := by
  simp only [cursorTick]; repeat' split
  all_goals simp

/-! ## msTick -/

@[simp] theorem msTick_drvState : (msTick s).drvState = s.drvState := by
  unfold msTick; split <;> simp
@[simp] theorem msTick_carrierHz : (msTick s).carrierHz = s.carrierHz := by
  unfold msTick; split <;> simp
@[simp] theorem msTick_alloc : (msTick s).alloc = s.alloc := by
  unfold msTick; split <;> simp
@[simp] theorem msTick_pscDiv : (msTick s).pscDiv = s.pscDiv := by
  unfold msTick; split <;> simp
@[simp] theorem msTick_maxDuty : (msTick s).maxDuty = s.maxDuty := by
  unfold msTick; split <;> simp
@[simp] theorem msTick_pscCnt : (msTick s).pscCnt = s.pscCnt := by
  unfold msTick; split <;> simp
@[simp] theorem msTick_cnt : (msTick s).cnt = s.cnt := by
  unfold msTick; split <;> simp
@[simp] theorem msTick_enabled : (msTick s).enabled = s.enabled := by
  unfold msTick; split <;> simp
@[simp] theorem msTick_dutyActive : (msTick s).dutyActive = s.dutyActive := by
  unfold msTick; split <;> simp
@[simp] theorem msTick_faultHwinit : (msTick s).faultHwinit = s.faultHwinit := by
  unfold msTick; split <;> simp
@[simp] theorem msTick_faultInvalidStep : (msTick s).faultInvalidStep = s.faultInvalidStep := by
  unfold msTick; split <;> simp
@[simp] theorem msTick_faultUsage : (msTick s).faultUsage = s.faultUsage := by
  unfold msTick; split <;> simp
@[simp] theorem msTick_faultCause : (msTick s).faultCause = s.faultCause := by
  unfold msTick; split <;> simp
@[simp] theorem msTick_faultCur : (msTick s).faultCur = s.faultCur := by
  unfold msTick; split <;> simp
@[simp] theorem msTick_faultStep : (msTick s).faultStep = s.faultStep := by
  unfold msTick; split <;> simp
@[simp] theorem msTick_seqState : (msTick s).seqState = s.seqState := by
  unfold msTick; split <;> simp
@[simp] theorem msTick_seqMaxDuty : (msTick s).seqMaxDuty = s.seqMaxDuty := by
  unfold msTick; split <;> simp
@[simp] theorem msTick_stepFrac : (msTick s).stepFrac = s.stepFrac := by
  unfold msTick; split <;> simp
@[simp] theorem msTick_stepHold : (msTick s).stepHold = s.stepHold := by
  unfold msTick; split <;> simp
@[simp] theorem msTick_curBase : (msTick s).curBase = s.curBase := by
  unfold msTick; split <;> simp
@[simp] theorem msTick_curLen : (msTick s).curLen = s.curLen := by
  unfold msTick; split <;> simp
@[simp] theorem msTick_curStart : (msTick s).curStart = s.curStart := by
  unfold msTick; split <;> simp
@[simp] theorem msTick_curChm : (msTick s).curChm = s.curChm := by
  unfold msTick; split <;> simp
@[simp] theorem msTick_running : (msTick s).running = s.running := by
  unfold msTick; split <;> simp
@[simp] theorem msTick_resp : (msTick s).resp = s.resp := by
  unfold msTick; split <;> simp
@[simp] theorem msTick_ports : (msTick s).ports = s.ports := by
  unfold msTick; split <;> simp
@[simp] theorem msTick_coming : (msTick s).coming = s.coming := by
  unfold msTick; split <;> simp
@[simp] theorem msTick_dividers : (msTick s).dividers = s.dividers := by
  unfold msTick; split <;> simp

/-! ## counterStep -/

@[simp] theorem counterStep_drvState : (counterStep s).drvState = s.drvState := by
  unfold counterStep; split <;> simp
@[simp] theorem counterStep_carrierHz : (counterStep s).carrierHz = s.carrierHz := by
  unfold counterStep; split <;> simp
@[simp] theorem counterStep_alloc : (counterStep s).alloc = s.alloc := by
  unfold counterStep; split <;> simp
@[simp] theorem counterStep_pscDiv : (counterStep s).pscDiv = s.pscDiv := by
  unfold counterStep; split <;> simp
@[simp] theorem counterStep_maxDuty : (counterStep s).maxDuty = s.maxDuty := by
  unfold counterStep; split <;> simp
@[simp] theorem counterStep_pscCnt : (counterStep s).pscCnt = s.pscCnt := by
  unfold counterStep; split <;> simp
@[simp] theorem counterStep_enabled : (counterStep s).enabled = s.enabled := by
  unfold counterStep; split <;> simp
@[simp] theorem counterStep_dutyValue : (counterStep s).dutyValue = s.dutyValue := by
  unfold counterStep; split <;> simp
@[simp] theorem counterStep_faultHwinit : (counterStep s).faultHwinit = s.faultHwinit := by
  unfold counterStep; split <;> simp
@[simp] theorem counterStep_faultInvalidStep : (counterStep s).faultInvalidStep = s.faultInvalidStep := by
  unfold counterStep; split <;> simp
@[simp] theorem counterStep_faultUsage : (counterStep s).faultUsage = s.faultUsage := by
  unfold counterStep; split <;> simp
@[simp] theorem counterStep_faultCause : (counterStep s).faultCause = s.faultCause := by
  unfold counterStep; split <;> simp
@[simp] theorem counterStep_faultCur : (counterStep s).faultCur = s.faultCur := by
  unfold counterStep; split <;> simp
@[simp] theorem counterStep_faultStep : (counterStep s).faultStep = s.faultStep := by
  unfold counterStep; split <;> simp
@[simp] theorem counterStep_warnSat : (counterStep s).warnSat = s.warnSat := by
  unfold counterStep; split <;> simp
@[simp] theorem counterStep_seqState : (counterStep s).seqState = s.seqState := by
  unfold counterStep; split <;> simp
@[simp] theorem counterStep_seqMaxDuty : (counterStep s).seqMaxDuty = s.seqMaxDuty := by
  unfold counterStep; split <;> simp
@[simp] theorem counterStep_stepFrac : (counterStep s).stepFrac = s.stepFrac := by
  unfold counterStep; split <;> simp
@[simp] theorem counterStep_stepHold : (counterStep s).stepHold = s.stepHold := by
  unfold counterStep; split <;> simp
@[simp] theorem counterStep_curBase : (counterStep s).curBase = s.curBase := by
  unfold counterStep; split <;> simp
@[simp] theorem counterStep_curLen : (counterStep s).curLen = s.curLen := by
  unfold counterStep; split <;> simp
@[simp] theorem counterStep_curStart : (counterStep s).curStart = s.curStart := by
  unfold counterStep; split <;> simp
@[simp] theorem counterStep_curChm : (counterStep s).curChm = s.curChm := by
  unfold counterStep; split <;> simp
@[simp] theorem counterStep_idx : (counterStep s).idx = s.idx := by
  unfold counterStep; split <;> simp
@[simp] theorem counterStep_running : (counterStep s).running = s.running := by
  unfold counterStep; split <;> simp
@[simp] theorem counterStep_holdRem : (counterStep s).holdRem = s.holdRem := by
  unfold counterStep; split <;> simp
@[simp] theorem counterStep_log : (counterStep s).log = s.log := by
  unfold counterStep; split <;> simp
@[simp] theorem counterStep_resp : (counterStep s).resp = s.resp := by
  unfold counterStep; split <;> simp
@[simp] theorem counterStep_ports : (counterStep s).ports = s.ports := by
  unfold counterStep; split <;> simp
@[simp] theorem counterStep_coming : (counterStep s).coming = s.coming := by
  unfold counterStep; split <;> simp
@[simp] theorem counterStep_dividers : (counterStep s).dividers = s.dividers := by
  unfold counterStep; split <;> simp

/-! ## timerTick -/

@[simp] theorem timerTick_drvState : (timerTick s).drvState = s.drvState := by
  unfold timerTick; split <;> simp
@[simp] theorem timerTick_carrierHz : (timerTick s).carrierHz = s.carrierHz := by
  unfold timerTick; split <;> simp
@[simp] theorem timerTick_alloc : (timerTick s).alloc = s.alloc := by
  unfold timerTick; split <;> simp
@[simp] theorem timerTick_pscDiv : (timerTick s).pscDiv = s.pscDiv := by
  unfold timerTick; split <;> simp
@[simp] theorem timerTick_maxDuty : (timerTick s).maxDuty = s.maxDuty := by
  unfold timerTick; split <;> simp
@[simp] theorem timerTick_enabled : (timerTick s).enabled = s.enabled := by
  unfold timerTick; split <;> simp
@[simp] theorem timerTick_dutyValue : (timerTick s).dutyValue = s.dutyValue := by
  unfold timerTick; split <;> simp
@[simp] theorem timerTick_faultHwinit : (timerTick s).faultHwinit = s.faultHwinit := by
  unfold timerTick; split <;> simp
@[simp] theorem timerTick_faultInvalidStep : (timerTick s).faultInvalidStep = s.faultInvalidStep := by
  unfold timerTick; split <;> simp
@[simp] theorem timerTick_faultUsage : (timerTick s).faultUsage = s.faultUsage := by
  unfold timerTick; split <;> simp
@[simp] theorem timerTick_faultCause : (timerTick s).faultCause = s.faultCause := by
  unfold timerTick; split <;> simp
@[simp] theorem timerTick_faultCur : (timerTick s).faultCur = s.faultCur := by
  unfold timerTick; split <;> simp
@[simp] theorem timerTick_faultStep : (timerTick s).faultStep = s.faultStep := by
  unfold timerTick; split <;> simp
@[simp] theorem timerTick_warnSat : (timerTick s).warnSat = s.warnSat := by
  unfold timerTick; split <;> simp
@[simp] theorem timerTick_seqState : (timerTick s).seqState = s.seqState := by
  unfold timerTick; split <;> simp
@[simp] theorem timerTick_seqMaxDuty : (timerTick s).seqMaxDuty = s.seqMaxDuty := by
  unfold timerTick; split <;> simp
@[simp] theorem timerTick_stepFrac : (timerTick s).stepFrac = s.stepFrac := by
  unfold timerTick; split <;> simp
@[simp] theorem timerTick_stepHold : (timerTick s).stepHold = s.stepHold := by
  unfold timerTick; split <;> simp
@[simp] theorem timerTick_curBase : (timerTick s).curBase = s.curBase := by
  unfold timerTick; split <;> simp
@[simp] theorem timerTick_curLen : (timerTick s).curLen = s.curLen := by
  unfold timerTick; split <;> simp
@[simp] theorem timerTick_curStart : (timerTick s).curStart = s.curStart := by
  unfold timerTick; split <;> simp
@[simp] theorem timerTick_curChm : (timerTick s).curChm = s.curChm := by
  unfold timerTick; split <;> simp
@[simp] theorem timerTick_idx : (timerTick s).idx = s.idx := by
  unfold timerTick; split <;> simp
@[simp] theorem timerTick_running : (timerTick s).running = s.running := by
  unfold timerTick; split <;> simp
@[simp] theorem timerTick_holdRem : (timerTick s).holdRem = s.holdRem := by
  unfold timerTick; split <;> simp
@[simp] theorem timerTick_log : (timerTick s).log = s.log := by
  unfold timerTick; split <;> simp
@[simp] theorem timerTick_resp : (timerTick s).resp = s.resp := by
  unfold timerTick; split <;> simp
@[simp] theorem timerTick_ports : (timerTick s).ports = s.ports := by
  unfold timerTick; split <;> simp
@[simp] theorem timerTick_coming : (timerTick s).coming = s.coming := by
  unfold timerTick; split <;> simp
@[simp] theorem timerTick_dividers : (timerTick s).dividers = s.dividers := by
  unfold timerTick; split <;> simp

/-! ## timTick -/

@[simp] theorem timTick_drvState : (timTick s).drvState = s.drvState := by
  unfold timTick; split <;> simp
@[simp] theorem timTick_carrierHz : (timTick s).carrierHz = s.carrierHz := by
  unfold timTick; split <;> simp
@[simp] theorem timTick_alloc : (timTick s).alloc = s.alloc := by
  unfold timTick; split <;> simp
@[simp] theorem timTick_pscDiv : (timTick s).pscDiv = s.pscDiv := by
  unfold timTick; split <;> simp
@[simp] theorem timTick_maxDuty : (timTick s).maxDuty = s.maxDuty := by
  unfold timTick; split <;> simp
@[simp] theorem timTick_enabled : (timTick s).enabled = s.enabled := by
  unfold timTick; split <;> simp
@[simp] theorem timTick_dutyValue : (timTick s).dutyValue = s.dutyValue := by
  unfold timTick; split <;> simp
@[simp] theorem timTick_faultHwinit : (timTick s).faultHwinit = s.faultHwinit := by
  unfold timTick; split <;> simp
@[simp] theorem timTick_faultInvalidStep : (timTick s).faultInvalidStep = s.faultInvalidStep := by
  unfold timTick; split <;> simp
@[simp] theorem timTick_faultUsage : (timTick s).faultUsage = s.faultUsage := by
  unfold timTick; split <;> simp
@[simp] theorem timTick_faultCause : (timTick s).faultCause = s.faultCause := by
  unfold timTick; split <;> simp
@[simp] theorem timTick_faultCur : (timTick s).faultCur = s.faultCur := by
  unfold timTick; split <;> simp
@[simp] theorem timTick_faultStep : (timTick s).faultStep = s.faultStep := by
  unfold timTick; split <;> simp
@[simp] theorem timTick_warnSat : (timTick s).warnSat = s.warnSat := by
  unfold timTick; split <;> simp
@[simp] theorem timTick_seqState : (timTick s).seqState = s.seqState := by
  unfold timTick; split <;> simp
@[simp] theorem timTick_seqMaxDuty : (timTick s).seqMaxDuty = s.seqMaxDuty := by
  unfold timTick; split <;> simp
@[simp] theorem timTick_stepFrac : (timTick s).stepFrac = s.stepFrac := by
  unfold timTick; split <;> simp
@[simp] theorem timTick_stepHold : (timTick s).stepHold = s.stepHold := by
  unfold timTick; split <;> simp
@[simp] theorem timTick_curBase : (timTick s).curBase = s.curBase := by
  unfold timTick; split <;> simp
@[simp] theorem timTick_curLen : (timTick s).curLen = s.curLen := by
  unfold timTick; split <;> simp
@[simp] theorem timTick_curStart : (timTick s).curStart = s.curStart := by
  unfold timTick; split <;> simp
@[simp] theorem timTick_curChm : (timTick s).curChm = s.curChm := by
  unfold timTick; split <;> simp
@[simp] theorem timTick_idx : (timTick s).idx = s.idx := by
  unfold timTick; split <;> simp
@[simp] theorem timTick_running : (timTick s).running = s.running := by
  unfold timTick; split <;> simp
@[simp] theorem timTick_holdRem : (timTick s).holdRem = s.holdRem := by
  unfold timTick; split <;> simp
@[simp] theorem timTick_log : (timTick s).log = s.log := by
  unfold timTick; split <;> simp
@[simp] theorem timTick_resp : (timTick s).resp = s.resp := by
  unfold timTick; split <;> simp
@[simp] theorem timTick_ports : (timTick s).ports = s.ports := by
  unfold timTick; split <;> simp
@[simp] theorem timTick_coming : (timTick s).coming = s.coming := by
  unfold timTick; split <;> simp
@[simp] theorem timTick_dividers : (timTick s).dividers = s.dividers := by
  unfold timTick; split <;> simp

/-! ## startSequencer -/

@[simp] theorem startSequencer_drvState (sel : Set2) : (startSequencer sel s).drvState = s.drvState := by
  simp [startSequencer]
@[simp] theorem startSequencer_carrierHz (sel : Set2) : (startSequencer sel s).carrierHz = s.carrierHz := by
  simp [startSequencer]
@[simp] theorem startSequencer_alloc (sel : Set2) : (startSequencer sel s).alloc = s.alloc := by
  simp [startSequencer]
@[simp] theorem startSequencer_pscDiv (sel : Set2) : (startSequencer sel s).pscDiv = s.pscDiv := by
  simp [startSequencer]
@[simp] theorem startSequencer_maxDuty (sel : Set2) : (startSequencer sel s).maxDuty = s.maxDuty := by
  simp [startSequencer]
@[simp] theorem startSequencer_pscCnt (sel : Set2) : (startSequencer sel s).pscCnt = s.pscCnt := by
  simp [startSequencer]
@[simp] theorem startSequencer_cnt (sel : Set2) : (startSequencer sel s).cnt = s.cnt := by
  simp [startSequencer]
@[simp] theorem startSequencer_enabled (sel : Set2) : (startSequencer sel s).enabled = s.enabled := by
  simp [startSequencer]
@[simp] theorem startSequencer_dutyActive (sel : Set2) : (startSequencer sel s).dutyActive = s.dutyActive := by
  simp [startSequencer]
@[simp] theorem startSequencer_faultHwinit (sel : Set2) : (startSequencer sel s).faultHwinit = s.faultHwinit := by
  simp [startSequencer]
@[simp] theorem startSequencer_faultInvalidStep (sel : Set2) : (startSequencer sel s).faultInvalidStep = s.faultInvalidStep := by
  simp [startSequencer]
@[simp] theorem startSequencer_faultUsage (sel : Set2) : (startSequencer sel s).faultUsage = s.faultUsage := by
  simp [startSequencer]
@[simp] theorem startSequencer_faultCause (sel : Set2) : (startSequencer sel s).faultCause = s.faultCause := by
  simp [startSequencer]
@[simp] theorem startSequencer_faultCur (sel : Set2) : (startSequencer sel s).faultCur = s.faultCur := by
  simp [startSequencer]
@[simp] theorem startSequencer_faultStep (sel : Set2) : (startSequencer sel s).faultStep = s.faultStep := by
  simp [startSequencer]
@[simp] theorem startSequencer_stepFrac (sel : Set2) : (startSequencer sel s).stepFrac = s.stepFrac := by
  simp [startSequencer]
@[simp] theorem startSequencer_stepHold (sel : Set2) : (startSequencer sel s).stepHold = s.stepHold := by
  simp [startSequencer]
@[simp] theorem startSequencer_curBase (sel : Set2) : (startSequencer sel s).curBase = s.curBase := by
  simp [startSequencer]
@[simp] theorem startSequencer_curLen (sel : Set2) : (startSequencer sel s).curLen = s.curLen := by
  simp [startSequencer]
@[simp] theorem startSequencer_curStart (sel : Set2) : (startSequencer sel s).curStart = s.curStart := by
  simp [startSequencer]
@[simp] theorem startSequencer_curChm (sel : Set2) : (startSequencer sel s).curChm = s.curChm := by
  simp [startSequencer]
@[simp] theorem startSequencer_resp (sel : Set2) : (startSequencer sel s).resp = s.resp := by
  simp [startSequencer]
@[simp] theorem startSequencer_ports (sel : Set2) : (startSequencer sel s).ports = s.ports := by
  simp [startSequencer]
@[simp] theorem startSequencer_coming (sel : Set2) : (startSequencer sel s).coming = s.coming := by
  simp [startSequencer]
@[simp] theorem startSequencer_dividers (sel : Set2) : (startSequencer sel s).dividers = s.dividers := by
  simp [startSequencer]

@[simp] theorem startSequencer_seqMaxDuty (sel : Set2) : (startSequencer sel s).seqMaxDuty = s.maxDuty := by
  simp [startSequencer]
@[simp] theorem startSequencer_seqState (sel : Set2) : (startSequencer sel s).seqState = .running := by
  simp [startSequencer]
@[simp] theorem raise_resp (e : FatalError) : (raise e s).resp = some ⟨0, true⟩ := rfl
@[simp] theorem raise_faultCause (e : FatalError) : (raise e s).faultCause = e.code := by simp [raise]
@[simp] theorem raise_faultCur (e : FatalError) : (raise e s).faultCur = e.cursor := by simp [raise]
@[simp] theorem raise_faultStep (e : FatalError) : (raise e s).faultStep = BitVec.ofNat 8 e.entry := by simp [raise]

end Sys2Proof.Machine
end

