-- ==== Sys2Proof/Laws/Ops.lean ====
section
/-! SUPPORT. One spec lemma per shared operation of Operands.lean and Ops.lean: what it can do, said once. -/

namespace Sys2Proof.Machine

/-! ## Operands -/

/-- R10: `sint32` is the two's complement reading. -/
@[simp] theorem sint32_eq_toInt (w : Word) : sint32 w = w.toInt := by
  unfold sint32
  rw [BitVec.toInt_eq_toNat_cond]
  split <;> split <;> omega

theorem clamp_zero_eq (v hi : Int) (h : 0 ≤ hi) : clamp v 0 hi = max 0 (min v hi) := by
  unfold clamp
  split
  · omega
  · split <;> omega

/-- R110: the stored value is the clamp of the operand. -/
theorem dutyOf_toNat (v : Int) (m : DutyWord) : ((dutyOf v m).toNat : Int) = max 0 (min v m.toNat) := by
  have hm := m.isLt
  have h := clamp_zero_eq v m.toNat (by omega)
  unfold dutyOf
  rw [h, BitVec.toNat_ofInt]
  omega

theorem dutyOf_le (v : Int) (m : DutyWord) : (dutyOf v m).toNat ≤ m.toNat := by
  have := dutyOf_toNat v m
  omega

/-- R110: there is no saturation exactly when the operand is in range. -/
theorem satDir_eq_none (v : Int) (m : DutyWord) : satDir v m = none ↔ 0 ≤ v ∧ v ≤ m.toNat := by
  unfold satDir
  split <;> [skip; split] <;> simp <;> omega

theorem satDir_eq_below (v : Int) (m : DutyWord) : satDir v m = some .below ↔ v < 0 := by
  unfold satDir
  split <;> [skip; split] <;> simp <;> omega

theorem satDir_eq_above (v : Int) (m : DutyWord) : satDir v m = some .above ↔ (m.toNat : Int) < v := by
  unfold satDir
  have := m.isLt
  split <;> [skip; split] <;> simp <;> omega

/-- R113 law 4: a legal fraction never needs the clamp. -/
theorem fracToDuty_le {f m : Nat} (h : f ≤ Config.fracOne) : fracToDuty f m ≤ m := by
  unfold fracToDuty
  unfold Config.fracOne at *
  have : f * m ≤ 65536 * m := Nat.mul_le_mul_right m h
  omega

theorem tableFrac_lt (s : State) {i : Nat} (h : i < 16) : tableFrac s i = s.stepFrac[i] := by
  simp [tableFrac, h]

theorem tableHold_lt (s : State) {i : Nat} (h : i < 16) : tableHold s i = s.stepHold[i] := by
  simp [tableHold, h]

/-- The table reads depend on the table alone (R69). -/
theorem tableFrac_congr {s t : State} (h : t.stepFrac = s.stepFrac) (i : Nat) : tableFrac t i = tableFrac s i := by
  simp [tableFrac, h]

theorem tableHold_congr {s t : State} (h : t.stepHold = s.stepHold) (i : Nat) : tableHold t i = tableHold s i := by
  simp [tableHold, h]

/-! ## Ops -/

/-- R172, R173: what raising an error does to the part it hits. -/
theorem raise_cases (e : FatalError) (s : State) :
    (e.isHardwareInit = true ∧ raise e s = { s with
      faultHwinit := true, drvState := .initFailed, faultCause := e.code, faultCur := e.cursor,
      faultStep := BitVec.ofNat 8 e.entry, resp := some ⟨0, true⟩ }) ∨
    (e.isHardwareInit = false ∧ raise e s = { s with
      faultInvalidStep := true, seqState := .fatal, faultCause := e.code, faultCur := e.cursor,
      faultStep := BitVec.ofNat 8 e.entry, resp := some ⟨0, true⟩ }) := by
  cases h : e.isHardwareInit
  · exact .inr ⟨rfl, by simp [raise, endPart, respondErr, h]⟩
  · exact .inl ⟨rfl, by simp [raise, endPart, respondErr, h]⟩

/-- R110, R174: everything a duty write can do. -/
theorem drvSetDuty_cases (n : Chan) (v : Int) (s : State) :
    (satDir v s.maxDuty = none ∧
      drvSetDuty n v s = { s with dutyValue := s.dutyValue.set n (dutyOf v s.maxDuty) }) ∨
    (∃ d, satDir v s.maxDuty = some d ∧
      drvSetDuty n v s = { s with
        dutyValue := s.dutyValue.set n (dutyOf v s.maxDuty), warnSat := s.warnSat.set n true,
        log := s.log ++ [.sat n d (dutyOf v s.maxDuty)] }) := by
  unfold drvSetDuty
  split
  · rename_i d hd
    exact .inr ⟨d, hd, by simp [warnDutySaturation, emit, setDutyValue]⟩
  · rename_i hd
    exact .inl ⟨hd, rfl⟩

@[simp] theorem drvSetDuty_dutyValue (n : Chan) (v : Int) (s : State) :
    (drvSetDuty n v s).dutyValue = s.dutyValue.set n (dutyOf v s.maxDuty) := by
  rcases drvSetDuty_cases n v s with ⟨_, h⟩ | ⟨_, _, h⟩ <;> rw [h]

/-- R106 to R111: a channel operation is acknowledged on an open channel and refused on any other. -/
theorem onChannel_open {n : Chan} {s : State} (f : State → State) (h : channelOpen s n = true) :
    onChannel n f s = ack (f s) := by simp [onChannel, h]

theorem onChannel_closed {n : Chan} {s : State} (f : State → State) (h : channelOpen s n = false) :
    onChannel n f s = refuse s := by simp [onChannel, h]

theorem channelOpen_iff (s : State) (n : Chan) :
    channelOpen s n = true ↔ s.drvState = .configured ∧ inSet s.alloc n = true := by simp [channelOpen]

/-- R130, R131, R133: a table or cursor write is accepted exactly while the sequencer is Idle. -/
theorem whileIdle_idle {s : State} (f : State → State) (h : s.seqState = .idle) : whileIdle f s = ack (f s) := by
  simp [whileIdle, h]

theorem whileIdle_locked {s : State} (f : State → State) (h : s.seqState ≠ .idle) : whileIdle f s = refuse s := by
  simp [whileIdle, h]

end Sys2Proof.Machine
end

