-- ==== Sys2Proof/Laws/Cursor.lean ====
section
/-! SUPPORT. One spec lemma per shared operation of Cursor.lean: what validation, apply, start and a cursor's millisecond
can do. -/

namespace Sys2Proof.Machine

/-! ## Validation (R136) -/

theorem checkEntry_eq_none (s : State) (k : CurNum) (i : Nat) :
    checkEntry s k i = none ↔ (tableFrac s i).toNat ≤ 65536 ∧ tableHold s i ≠ 0 := by
  unfold checkEntry Config.fracOne
  split <;> [skip; split] <;> simp_all

/-- R136: a cursor passes exactly when all six checks pass. -/
theorem validateCursor_eq_none (s : State) (k : CurNum) :
    validateCursor s k = none ↔
      s.curLen[k.val] ≠ 0 ∧ s.curBase[k.val].toNat + s.curLen[k.val].toNat ≤ 16 ∧
      s.curStart[k.val].toNat < s.curLen[k.val].toNat ∧ (s.curChm[k.val] ≠ 0 ∧ s.curChm[k.val] &&& ~~~s.alloc = 0) ∧
      ∀ i, s.curBase[k.val].toNat ≤ i → i < s.curBase[k.val].toNat + s.curLen[k.val].toNat → checkEntry s k i = none := by
  unfold validateCursor Config.stepDepth
  split
  · simp_all
  · split
    · rename_i h; simp [show ¬ s.curBase[k.val].toNat + s.curLen[k.val].toNat ≤ 16 by omega]
    · split
      · rename_i h; simp [show ¬ s.curStart[k.val].toNat < s.curLen[k.val].toNat by omega]
      · split
        · rename_i h; constructor
          · simp
          · rintro ⟨_, _, _, h', _⟩; tauto
        · rename_i h1 h2 h3 h4
          simp only [List.findSome?_eq_none_iff, List.mem_range'_1]
          constructor
          · exact fun h => ⟨h1, by omega, by omega, by tauto, fun i a b => h i ⟨a, b⟩⟩
          · exact fun h i hi => h.2.2.2.2 i hi.1 hi.2

/-- R135: everything validation can answer for a set of cursors. -/
theorem validate_cases (s : State) (sel : Set2) :
    (∃ e, validateSelected s sel 0 = some e ∧ validate s sel = some e) ∨
    (validateSelected s sel 0 = none ∧ validate s sel = validateSelected s sel 1) := by
  unfold validate
  split
  · rename_i e h; exact .inl ⟨e, h, rfl⟩
  · rename_i h; exact .inr ⟨h, rfl⟩

theorem validate_eq_none (s : State) (sel : Set2) :
    validate s sel = none ↔ ∀ k : CurNum, inSet sel k = true → validateCursor s k = none := by
  rw [Fin.forall_fin_two]
  rcases validate_cases s sel with ⟨e, h, h'⟩ | ⟨h, h'⟩ <;> rw [h'] <;>
    simp only [validateSelected] at * <;> split at h <;> simp_all

/-! ## Apply (R137) -/

/-- R137: everything apply can do on one channel. -/
theorem applyChannel_cases (k : CurNum) (f : Word) (v : Nat) (n : Chan) (s : State) :
    (inSet s.curChm[k.val] n = false ∧ applyChannel k f v n s = s) ∨
    (inSet s.curChm[k.val] n = true ∧ applyChannel k f v n s =
      emit (.step k n s.idx[k.val] f (dutyOf v s.maxDuty)) (drvSetDuty n v s)) := by
  unfold applyChannel
  split
  · rename_i h; exact .inr ⟨h, by simp⟩
  · rename_i h; exact .inl ⟨by simpa using h, rfl⟩

/-- R110 within R137: a duty value in range is written without a warning. -/
theorem applyChannel_in_range (k : CurNum) (f : Word) (v : Nat) (n : Chan) (s : State) (h : v ≤ s.maxDuty.toNat) :
    applyChannel k f v n s =
      if inSet s.curChm[k.val] n then
        { s with dutyValue := s.dutyValue.set n (dutyOf v s.maxDuty),
                 log := s.log ++ [.step k n s.idx[k.val] f (dutyOf v s.maxDuty)] }
      else s := by
  rcases applyChannel_cases k f v n s with ⟨hc, he⟩ | ⟨hc, he⟩
  · rw [he, hc]; simp
  · have hd : satDir v s.maxDuty = none := (satDir_eq_none _ _).2 ⟨by omega, by exact_mod_cast h⟩
    rcases drvSetDuty_cases n v s with ⟨_, h'⟩ | ⟨d, h', _⟩
    · rw [he, hc, h']; simp [emit]
    · simp [hd] at h'

/-- R137: the duty a channel has after an apply. -/
theorem applyStep_dutyValue (k : CurNum) (s : State) (n : Chan) :
    (applyStep k s).dutyValue[n.val] =
      if inSet s.curChm[k.val] n then dutyOf (currentDuty s k) s.maxDuty else s.dutyValue[n.val] := by
  unfold applyStep
  rcases applyChannel_cases k (currentFrac s k) (currentDuty s k) 0 s with ⟨h0, e0⟩ | ⟨h0, e0⟩ <;> rw [e0] <;>
  rcases applyChannel_cases k (currentFrac s k) (currentDuty s k) 1 _ with ⟨h1, e1⟩ | ⟨h1, e1⟩ <;> rw [e1] <;>
  rcases Fin.exists_fin_two.1 ⟨n, rfl⟩ with rfl | rfl <;> simp_all

/-- The STEP record that an apply of cursor k's current step emits on channel n. -/
def applyRecord (k : CurNum) (s : State) (n : Chan) : LogRec :=
  .step k n s.idx[k.val] (currentFrac s k) (dutyOf (currentDuty s k) s.maxDuty)

/-- R137: an apply whose duty is in range warns of nothing: it writes the cursor's channels and records each write. -/
theorem applyStep_in_range (k : CurNum) (s : State) (h : currentDuty s k ≤ s.maxDuty.toNat) :
    applyStep k s = { s with
      dutyValue := (applyStep k s).dutyValue,
      log := s.log ++ ((if inSet s.curChm[k.val] 0 then [applyRecord k s 0] else []) ++
        (if inSet s.curChm[k.val] 1 then [applyRecord k s 1] else [])) } := by
  unfold applyStep applyRecord
  by_cases h0 : inSet s.curChm[k.val] 0 = true <;> by_cases h1 : inSet s.curChm[k.val] 1 = true <;>
    simp [applyChannel_in_range, h, h0, h1]

/-- R40 item 7 and R113 law 4: a legal fraction and the latched resolution give a duty in range. -/
theorem currentDuty_le (k : CurNum) (s : State) (hl : s.seqMaxDuty = s.maxDuty)
    (hf : (currentFrac s k).toNat ≤ 65536) : currentDuty s k ≤ s.maxDuty.toNat := by
  rw [← hl]
  exact fracToDuty_le hf

/-! ## The start and the millisecond of a cursor -/

/-- R135: everything the start can do to one cursor. -/
theorem startCursor_cases (sel : Set2) (k : CurNum) (s : State) :
    (inSet sel k = false ∧ startCursor sel k s = s) ∨
    (inSet sel k = true ∧ startCursor sel k s =
      reloadHold k (applyStep k { s with idx := s.idx.set k s.curStart[k.val], running := s.running.set k true })) := by
  unfold startCursor
  split
  · rename_i h; exact .inr ⟨h, rfl⟩
  · rename_i h; exact .inl ⟨by simpa using h, rfl⟩

/-- R158 to R160: everything one millisecond can do to one cursor. -/
theorem cursorTick_cases (k : CurNum) (s : State) :
    (s.running[k.val] = false ∧ cursorTick k s = s) ∨
    (s.running[k.val] = true ∧ s.holdRem[k.val] - 1 ≠ 0 ∧ cursorTick k s = decHold k s) ∨
    (s.running[k.val] = true ∧ s.holdRem[k.val] - 1 = 0 ∧ cursorTick k s = advance k (decHold k s)) := by
  simp only [cursorTick]
  split
  · rename_i h
    split
    · rename_i h'; exact .inr (.inr ⟨h, by simpa using h', rfl⟩)
    · rename_i h'; exact .inr (.inl ⟨h, by simpa using h', rfl⟩)
  · rename_i h; exact .inl ⟨by simpa using h, rfl⟩

/-- R159: the next offset of a cursor with a non-empty Sequence. -/
theorem nextOffset_toNat (s : State) (k : CurNum) (h : 1 ≤ s.curLen[k.val].toNat) :
    (nextOffset s k).toNat = (s.idx[k.val].toNat + 1) % s.curLen[k.val].toNat := by
  have h0 : s.curLen[k.val] ≠ 0 := by rintro h0; rw [h0] at h; simp at h
  have hlt := s.curLen[k.val].isLt
  have := Nat.mod_lt (s.idx[k.val].toNat + 1) h
  simp only [nextOffset, h0, if_false, BitVec.toNat_ofNat]
  omega

end Sys2Proof.Machine
end

