-- ==== Sys2Proof/Laws/Decode.lean ====
section
/-! SUPPORT. The fields of a transaction word, the register map, and the data words: what decoding reads back from what
encoding writes. -/

namespace Sys2Proof

/-! ## The fields of T -/

/-- Every bit of a transaction word (R80). -/
theorem getLsbD_busWord (we : Bool) (a : Offset) (d : Word) (i : Nat) :
    (busWord we a d).getLsbD i =
      if i < 32 then d.getLsbD i else if i < 40 then a.getLsbD (i - 32) else decide (i = 40) && we := by
  simp only [busWord, BitVec.getLsbD_setWidth, BitVec.getLsbD_append, BitVec.getLsbD_ofBool]
  split
  · simp; intro; omega
  · split
    · simp [show i < 40 by omega]; intro; omega
    · by_cases h : i = 40
      · simp [h]
      · simp [h, show ¬ i < 40 by omega, show ¬ i - 32 - 8 = 0 by omega]

@[simp] theorem busWe_busWord (we : Bool) (a : Offset) (d : Word) : busWe (busWord we a d) = we := by
  simp only [busWe, getLsbD_busWord]
  simp

@[simp] theorem busAddr_busWord (we : Bool) (a : Offset) (d : Word) : busAddr (busWord we a d) = a := by
  ext i hi
  simp only [busAddr, BitVec.getElem_extractLsb', getLsbD_busWord]
  simp [show 32 + i < 40 by omega, hi]

@[simp] theorem busData_busWord (we : Bool) (a : Offset) (d : Word) : busData (busWord we a d) = d := by
  ext i hi
  simp only [busData, BitVec.getElem_extractLsb', getLsbD_busWord]
  simp [hi]

/-- A transaction word is the concatenation of its fields (R80). -/
theorem busWord_fields (t : BusWord) : busWord (busWe t) (busAddr t) (busData t) = t := by
  apply BitVec.eq_of_getLsbD_eq
  intro i hi
  simp only [getLsbD_busWord, busWe, busAddr, busData, BitVec.getLsbD_extractLsb']
  split
  · simp [*]
  · split
    · simp [show i - 32 < 8 by omega, show 32 + (i - 32) = i by omega]
    · simp [show i = 40 by omega]

@[simp] theorem decode_busWord (we : Bool) (a : Offset) (d : Word) : decode (busWord we a d) = decodeFields we a d := by
  simp [decode]

/-! ## The register map -/

/-- Every register is found at its offset (R81). -/
@[simp] theorem regAt_offset (r : Reg) : regAt r.offset = .ok r := by
  cases r with
  | chEn n | chDuty n | chDutyFrac n => revert n; decide
  | curSeq n | curPos n | curHold n => revert n; decide
  | stepFrac n | stepHold n => revert n; decide
  | _ => decide

/-- Whatever register is found at an offset has that offset: no register has two (R41, R65). -/
theorem offset_of_regAt {a : Offset} {r : Reg} (h : regAt a = .ok r) : r.offset = a := by
  have key : ∀ a : Offset, (regAt a).toOption.map Reg.offset = none ∨ (regAt a).toOption.map Reg.offset = some a := by
    decide +kernel
  have := key a
  simpa [h, Except.toOption] using this

theorem regAt_eq_ok {a : Offset} {r : Reg} : regAt a = .ok r ↔ a = r.offset :=
  ⟨fun h => (offset_of_regAt h).symm, fun h => h ▸ regAt_offset r⟩

/-! ## The data words -/

@[simp] theorem configData_hz (hz : BitVec 16) (req : Set2) : (configData hz req).extractLsb' 0 16 = hz := by
  ext i hi
  simp only [configData, BitVec.getElem_extractLsb', BitVec.getLsbD_setWidth, BitVec.getLsbD_append]
  simp [hi]
  omega

@[simp] theorem configData_req (hz : BitVec 16) (req : Set2) : (configData hz req).extractLsb' 16 2 = req := by
  ext i hi
  simp only [configData, BitVec.getElem_extractLsb', BitVec.getLsbD_setWidth, BitVec.getLsbD_append]
  simp [hi]
  omega

@[simp] theorem seqStartData_sel (sel : Set2) : (seqStartData sel).extractLsb' 0 2 = sel := by
  ext i hi
  simp only [seqStartData, BitVec.getElem_extractLsb', BitVec.getLsbD_setWidth]
  simp [hi]
  omega

/-- Every bit of a CURk_SEQ data word (R85). -/
theorem getLsbD_cursorData (b l st : BitVec 8) (c : Set2) (i : Nat) :
    (cursorData b l st c).getLsbD i =
      if i < 8 then b.getLsbD i else if i < 16 then l.getLsbD (i - 8)
      else if i < 24 then st.getLsbD (i - 16) else c.getLsbD (i - 24) := by
  simp only [cursorData, BitVec.getLsbD_setWidth, BitVec.getLsbD_append]
  by_cases h1 : i < 8
  · simp [h1]; omega
  by_cases h2 : i < 16
  · simp [h1, h2, show i - 8 < 8 by omega]; omega
  by_cases h3 : i < 24
  · simp [h1, h2, h3, show ¬ i - 8 < 8 by omega, show i - 16 < 8 by omega, show i - 8 - 8 = i - 16 by omega]; omega
  · simp [h1, h2, h3, show ¬ i - 8 < 8 by omega, show ¬ i - 8 - 8 < 8 by omega, show i - 8 - 8 - 8 = i - 24 by omega]
    intro hc
    have := BitVec.lt_of_getLsbD hc
    omega

@[simp] theorem cursorData_base (b l st : BitVec 8) (c : Set2) : (cursorData b l st c).extractLsb' 0 8 = b := by
  ext i hi
  simp only [BitVec.getElem_extractLsb', getLsbD_cursorData]
  simp [hi]

@[simp] theorem cursorData_len (b l st : BitVec 8) (c : Set2) : (cursorData b l st c).extractLsb' 8 8 = l := by
  ext i hi
  simp only [BitVec.getElem_extractLsb', getLsbD_cursorData]
  simp [hi, show 8 + i < 16 by omega]

@[simp] theorem cursorData_start (b l st : BitVec 8) (c : Set2) : (cursorData b l st c).extractLsb' 16 8 = st := by
  ext i hi
  simp only [BitVec.getElem_extractLsb', getLsbD_cursorData]
  simp [hi, show ¬ 16 + i < 8 by omega, show 16 + i < 24 by omega]

@[simp] theorem cursorData_chm (b l st : BitVec 8) (c : Set2) : (cursorData b l st c).extractLsb' 24 2 = c := by
  ext i hi
  simp only [BitVec.getElem_extractLsb', getLsbD_cursorData]
  simp [hi, show ¬ 24 + i < 8 by omega, show ¬ 24 + i < 16 by omega]

/-- The transaction that `encode` writes, when there is one. -/
theorem encode_eq_some {i : Instr} {t : BusWord} (h : encode i = some t) :
    ∃ we r d, i.transaction = some (we, r, d) ∧ t = busWord we r.offset d := by
  unfold encode at h
  split at h
  · rename_i we r d hi
    exact ⟨we, r, d, hi, by simpa using h.symm⟩
  · cases h

end Sys2Proof
end

