-- ==== Sys2Proof/Laws/Dividers.lean ====
section
/-! SUPPORT. What `derive_dividers` can answer (R102, R103), said once per function. -/

namespace Sys2Proof.Machine

/-- R102: the pairs the contract admits. -/
theorem isDividerPair_iff (t hz p m : Nat) :
    isDividerPair t hz p m = true ↔ 1 ≤ p ∧ p ≤ 65536 ∧ 1 ≤ m ∧ m ≤ 65536 ∧ p * m * hz = t := by
  simp only [isDividerPair, Bool.and_eq_true, decide_eq_true_eq, beq_iff_eq, and_assoc]
  rfl

/-- R103: the test of the loop. -/
theorem prescalerFits_iff (total p : Nat) :
    prescalerFits total p = true ↔ total % p = 0 ∧ total / p ≤ 65536 := by
  simp only [prescalerFits, Bool.and_eq_true, decide_eq_true_eq, beq_iff_eq]
  rfl

/-- Everything the default instance can answer: `none`, or the first prescaler of the loop that fits. -/
theorem defaultDividers_cases (t hz : Nat) :
    (defaultDividers t hz = none ∧ (hz = 0 ∨ t % hz ≠ 0 ∨ t / hz = 0 ∨
      (List.range' 1 65536).find? (prescalerFits (t / hz)) = none)) ∨
    (∃ p, hz ≠ 0 ∧ t % hz = 0 ∧ t / hz ≠ 0 ∧ (List.range' 1 65536).find? (prescalerFits (t / hz)) = some p ∧
      defaultDividers t hz = some (p, t / hz / p)) := by
  unfold defaultDividers
  split
  · rename_i h; exact .inl ⟨rfl, by tauto⟩
  · split
    · rename_i h; exact .inl ⟨rfl, by tauto⟩
    · split
      · rename_i p hp; exact .inr ⟨p, by tauto, by tauto, by tauto, hp, rfl⟩
      · rename_i hp; exact .inl ⟨rfl, .inr (.inr (.inr hp))⟩

/-- Everything `derive_dividers` can answer: an admissible departure's pair, or the default's answer. -/
theorem deriveDividers_cases (table : List DividerEntry) (t : Word) (hz : BitVec 16) :
    (∃ e ∈ table, e.timclkHz = t ∧ e.hz = hz ∧ e.admissible = true ∧ deriveDividers table t hz = e.pair) ∨
    deriveDividers table t hz = defaultDividers t.toNat hz.toNat := by
  unfold deriveDividers
  split
  · rename_i e he
    have := List.find?_some he
    simp only [DividerEntry.applies, Bool.and_eq_true, beq_iff_eq] at this
    exact .inl ⟨e, List.mem_of_find?_eq_some he, this.1.1, this.1.2, this.2, rfl⟩
  · exact .inr rfl

/-- With no departures the platform is the default instance. -/
@[simp] theorem deriveDividers_nil (t : Word) (hz : BitVec 16) :
    deriveDividers [] t hz = defaultDividers t.toNat hz.toNat := rfl

end Sys2Proof.Machine
end

