-- ==== Sys2Proof/Laws/Timer.lean ====
section
/-! SUPPORT. What a TIM_TICK can do (R150 to R153), said once. -/

namespace Sys2Proof.Machine

/-- R150: the four things a TIM_TICK can do: nothing, a prescaler count, a counter step, a frame start. -/
theorem timTick_cases (s : State) :
    (s.drvState ≠ .configured ∧ timTick s = s) ∨
    (s.drvState = .configured ∧ s.pscCnt.toNat + 1 < s.pscDiv.toNat ∧
      timTick s = { s with pscCnt := s.pscCnt + 1 }) ∨
    (s.drvState = .configured ∧ s.pscDiv.toNat ≤ s.pscCnt.toNat + 1 ∧ s.cnt.toNat + 1 < s.maxDuty.toNat ∧
      timTick s = { s with pscCnt := 0, cnt := s.cnt + 1 }) ∨
    (s.drvState = .configured ∧ s.pscDiv.toNat ≤ s.pscCnt.toNat + 1 ∧ s.maxDuty.toNat ≤ s.cnt.toNat + 1 ∧
      timTick s = { s with pscCnt := 0, cnt := 0, dutyActive := s.dutyValue }) := by
  unfold timTick timerTick counterStep frameStart
  split
  · rename_i h
    split
    · rename_i hp; exact .inr (.inl ⟨h, hp, rfl⟩)
    · rename_i hp
      simp only
      split
      · rename_i hc; exact .inr (.inr (.inl ⟨h, by omega, hc, rfl⟩))
      · rename_i hc; exact .inr (.inr (.inr ⟨h, by omega, by simpa using hc, rfl⟩))
  · rename_i h; exact .inl ⟨h, rfl⟩

end Sys2Proof.Machine
end

