-- ==== Sys2Proof/Laws/Exec.lean ====
section
/-! SUPPORT. What an instruction can do: the one inversion lemma of `exec`, through which claims about every instruction
go, so that none of them unfolds the meanings. -/

namespace Sys2Proof.Machine

/-- R136: what validation answers is always an InvalidStepError. -/
theorem validate_some {s : State} {sel : Set2} {e : FatalError} (h : validate s sel = some e) :
    e.isHardwareInit = false := by
  have entry (k i) (h : checkEntry s k i = some e) : e.isHardwareInit = false := by
    simp only [checkEntry] at h
    split at h <;> [skip; split at h] <;> simp at h <;> subst h <;> rfl
  have cursor (k) (h : validateCursor s k = some e) : e.isHardwareInit = false := by
    simp only [validateCursor] at h
    split at h
    · simp at h; subst h; rfl
    split at h
    · simp at h; subst h; rfl
    split at h
    · simp at h; subst h; rfl
    split at h
    · simp at h; subst h; rfl
    obtain ⟨i, _, hi⟩ := List.exists_of_findSome?_eq_some h
    exact entry k i hi
  rcases validate_cases s sel with ⟨e', h0, h'⟩ | ⟨_, h'⟩
  · rw [h'] at h
    simp only [validateSelected] at h0
    split at h0
    · exact cursor 0 (by simp_all)
    · cases h0
  · rw [h'] at h
    simp only [validateSelected] at h
    split at h
    · exact cursor 1 h
    · cases h

/-- R100: everything CONFIGURE can do: refuse, raise a HardwareInitError, or configure the timer. -/
theorem execConfigure_cases {hz : BitVec 16} {req : Set2} {s t : State} (h : execConfigure hz req s = .next t) :
    t = refuse s ∨
    (∃ e, e.isHardwareInit = true ∧ s.drvState = .unconfigured ∧ hz ≠ 0 ∧ req ≠ 0 ∧ t = raise e s) ∨
    (∃ p m, s.drvState = .unconfigured ∧ hz.toNat = 50 ∧ req ≠ 0 ∧ s.ports.clkValid = true ∧
      deriveDividers s.dividers s.ports.timclkHz hz = some (p, m) ∧ t = ack (configureTimer hz req p m s)) := by
  simp only [execConfigure, Host.Outcome.next.injEq] at h
  split at h
  · rename_i hg
    simp only [tryConfigure] at h
    split at h
    · exact .inr (.inl ⟨_, rfl, hg.1, hg.2.1, hg.2.2, h.symm⟩)
    split at h
    · exact .inr (.inl ⟨_, rfl, hg.1, hg.2.1, hg.2.2, h.symm⟩)
    rename_i hc hf
    split at h
    · exact .inr (.inl ⟨_, rfl, hg.1, hg.2.1, hg.2.2, h.symm⟩)
    · rename_i p m hd
      exact .inr (.inr ⟨p, m, hg.1, by simpa [Config.carrierHz] using hf, hg.2.2, by simpa using hc, hd, h.symm⟩)
  · exact .inl h.symm

/-- R135: everything SEQ_START can do: refuse, raise an InvalidStepError, or start. -/
theorem execSeqStart_cases {sel : Set2} {s t : State} (h : execSeqStart sel s = .next t) :
    t = refuse s ∨
    (∃ e, s.drvState = .configured ∧ s.seqState = .idle ∧ sel ≠ 0 ∧ validate s sel = some e ∧
      e.isHardwareInit = false ∧ t = raise e s) ∨
    (s.drvState = .configured ∧ s.seqState = .idle ∧ sel ≠ 0 ∧ validate s sel = none ∧
      t = ack (startSequencer sel s)) := by
  simp only [execSeqStart, Host.Outcome.next.injEq] at h
  split at h
  · rename_i hg
    simp only [tryStart] at h
    split at h
    · rename_i e he
      exact .inr (.inl ⟨e, hg.1, hg.2.1, hg.2.2, he, validate_some he, h.symm⟩)
    · rename_i he
      exact .inr (.inr ⟨hg.1, hg.2.1, hg.2.2, he, h.symm⟩)
  · exact .inl h.symm

/-- R106 to R111: a channel operation is refused, or has its effect on an open channel. -/
theorem onChannel_cases (n : Chan) (f : State → State) (s : State) :
    onChannel n f s = refuse s ∨
    (s.drvState = .configured ∧ inSet s.alloc n = true ∧ onChannel n f s = ack (f s)) := by
  cases h : channelOpen s n
  · exact .inl (onChannel_closed f h)
  · exact .inr ⟨((channelOpen_iff s n).1 h).1, ((channelOpen_iff s n).1 h).2, onChannel_open f h⟩

/-- R130, R131, R133: a table or cursor write is refused, or has its effect in Idle. -/
theorem whileIdle_cases (f : State → State) (s : State) :
    whileIdle f s = refuse s ∨ (s.seqState = .idle ∧ whileIdle f s = ack (f s)) := by
  by_cases h : s.seqState = .idle
  · exact .inr ⟨h, whileIdle_idle f h⟩
  · exact .inl (whileIdle_locked f h)

/-- Everything an instruction can do: return a word (a read), refuse (a write), or have its own effect under its precondition. -/
theorem exec_cases {i : Instr} {s t : State} (h : exec i s = .next t) :
    (∃ w r, i.transaction = some (false, r, 0) ∧ t = respond w s) ∨
    (∃ r d, i.transaction = some (true, r, d) ∧ t = refuse s) ∨
    (∃ hz req e, i = .configure hz req ∧ e.isHardwareInit = true ∧ s.drvState = .unconfigured ∧ hz ≠ 0 ∧ req ≠ 0 ∧
      t = raise e s) ∨
    (∃ hz req p m, i = .configure hz req ∧ s.drvState = .unconfigured ∧ hz.toNat = 50 ∧ req ≠ 0 ∧
      s.ports.clkValid = true ∧ deriveDividers s.dividers s.ports.timclkHz hz = some (p, m) ∧
      t = ack (configureTimer hz req p m s)) ∨
    (∃ sel e, i = .seqStart sel ∧ s.drvState = .configured ∧ s.seqState = .idle ∧ sel ≠ 0 ∧
      validate s sel = some e ∧ e.isHardwareInit = false ∧ t = raise e s) ∨
    (∃ sel, i = .seqStart sel ∧ s.drvState = .configured ∧ s.seqState = .idle ∧ sel ≠ 0 ∧
      validate s sel = none ∧ t = ack (startSequencer sel s)) ∨
    (∃ n b, (i = .enable n ∧ b = true ∨ i = .disable n ∧ b = false) ∧ s.drvState = .configured ∧
      inSet s.alloc n = true ∧ t = ack { s with enabled := s.enabled.set n b }) ∨
    (∃ n v, ((∃ w : Word, i = .setDuty n w ∧ v = w.toInt) ∨
        (∃ f : Word, i = .setDutyFrac n f ∧ v = (fracToDuty f.toNat s.maxDuty.toNat : Int))) ∧
      s.drvState = .configured ∧ inSet s.alloc n = true ∧ t = ack (drvSetDuty n v s)) ∨
    (∃ k base len start chm, i = .wrCursor k base len start chm ∧ s.seqState = .idle ∧
      t = ack { s with
        curBase := s.curBase.set k base, curLen := s.curLen.set k len,
        curStart := s.curStart.set k start, curChm := s.curChm.set k chm }) ∨
    (∃ e w, i = .wrStepFrac e w ∧ s.seqState = .idle ∧ t = ack { s with stepFrac := s.stepFrac.set e w }) ∨
    (∃ e w, i = .wrStepHold e w ∧ s.seqState = .idle ∧ t = ack { s with stepHold := s.stepHold.set e w }) ∨
    (i = .timTick ∧ t = timTick s) ∨ (i = .msTick ∧ t = msTick s) ∨ (i = .reset ∧ t = resetAll s) := by
  cases i with
  | configure hz req =>
    rcases execConfigure_cases h with h | ⟨e, h⟩ | ⟨p, m, h⟩
    · exact .inr (.inl ⟨_, _, rfl, h⟩)
    · exact .inr (.inr (.inl ⟨hz, req, e, rfl, h⟩))
    · exact .inr (.inr (.inr (.inl ⟨hz, req, p, m, rfl, h⟩)))
  | seqStart sel =>
    rcases execSeqStart_cases h with h | ⟨e, h⟩ | h
    · exact .inr (.inl ⟨_, _, rfl, h⟩)
    · exact .inr (.inr (.inr (.inr (.inl ⟨sel, e, rfl, h⟩))))
    · exact .inr (.inr (.inr (.inr (.inr (.inl ⟨sel, rfl, h⟩)))))
  | enable n =>
    cases h
    rcases onChannel_cases n (fun t => { t with enabled := t.enabled.set n true }) s with h | ⟨h1, h2, h3⟩
    · exact .inr (.inl ⟨_, _, rfl, h⟩)
    · exact .inr (.inr (.inr (.inr (.inr (.inr (.inl ⟨n, true, .inl ⟨rfl, rfl⟩, h1, h2, h3⟩))))))
  | disable n =>
    cases h
    rcases onChannel_cases n (fun t => { t with enabled := t.enabled.set n false }) s with h | ⟨h1, h2, h3⟩
    · exact .inr (.inl ⟨_, _, rfl, h⟩)
    · exact .inr (.inr (.inr (.inr (.inr (.inr (.inl ⟨n, false, .inr ⟨rfl, rfl⟩, h1, h2, h3⟩))))))
  | setDuty n w =>
    cases h
    rcases onChannel_cases n (drvSetDuty n (sint32 w)) s with h | ⟨h1, h2, h3⟩
    · exact .inr (.inl ⟨_, _, rfl, h⟩)
    · exact .inr (.inr (.inr (.inr (.inr (.inr (.inr (.inl
        ⟨n, w.toInt, .inl ⟨w, rfl, rfl⟩, h1, h2, sint32_eq_toInt w ▸ h3⟩)))))))
  | setDutyFrac n f =>
    cases h
    rcases onChannel_cases n (drvSetDuty n (fracToDuty f.toNat s.maxDuty.toNat)) s with h | ⟨h1, h2, h3⟩
    · exact .inr (.inl ⟨_, _, rfl, h⟩)
    · exact .inr (.inr (.inr (.inr (.inr (.inr (.inr (.inl ⟨n, _, .inr ⟨f, rfl, rfl⟩, h1, h2, h3⟩)))))))
  | wrCursor k base len start chm =>
    cases h
    rcases whileIdle_cases (fun t => { t with
        curBase := t.curBase.set k base, curLen := t.curLen.set k len,
        curStart := t.curStart.set k start, curChm := t.curChm.set k chm }) s with h | ⟨h1, h2⟩
    · exact .inr (.inl ⟨_, _, rfl, h⟩)
    · exact .inr (.inr (.inr (.inr (.inr (.inr (.inr (.inr (.inl ⟨k, base, len, start, chm, rfl, h1, h2⟩))))))))
  | wrStepFrac e w =>
    cases h
    rcases whileIdle_cases (fun t => { t with stepFrac := t.stepFrac.set e w }) s with h | ⟨h1, h2⟩
    · exact .inr (.inl ⟨_, _, rfl, h⟩)
    · exact .inr (.inr (.inr (.inr (.inr (.inr (.inr (.inr (.inr (.inl ⟨e, w, rfl, h1, h2⟩)))))))))
  | wrStepHold e w =>
    cases h
    rcases whileIdle_cases (fun t => { t with stepHold := t.stepHold.set e w }) s with h | ⟨h1, h2⟩
    · exact .inr (.inl ⟨_, _, rfl, h⟩)
    · exact .inr (.inr (.inr (.inr (.inr (.inr (.inr (.inr (.inr (.inr (.inl ⟨e, w, rfl, h1, h2⟩))))))))))
  | timTick =>
    cases h
    exact .inr (.inr (.inr (.inr (.inr (.inr (.inr (.inr (.inr (.inr (.inr (.inl ⟨rfl, rfl⟩)))))))))))
  | msTick =>
    cases h
    exact .inr (.inr (.inr (.inr (.inr (.inr (.inr (.inr (.inr (.inr (.inr (.inr (.inl ⟨rfl, rfl⟩))))))))))))
  | reset =>
    cases h
    exact .inr (.inr (.inr (.inr (.inr (.inr (.inr (.inr (.inr (.inr (.inr (.inr (.inr ⟨rfl, rfl⟩))))))))))))
  | rdConfig | resolution | rdStatus | rdFault | rdFaultInfo | rdWarn | rdPscDiv | rdSeqStart | rdEn n | rdDuty n
  | rdCursor k | rdPos k | rdHold k | rdStepFrac e | rdStepHold e =>
    cases h
    exact .inl ⟨_, _, rfl, rfl⟩

end Sys2Proof.Machine
end

