-- ==== Sys2Proof/Laws/PerInstr.lean ====
section
/-! SUPPORT. Statements made per instruction: the direction of a host operation agrees with the access right of its
register in R81. -/

namespace Sys2Proof

/-- The access column of R81 for writes: the registers marked RW or WO. -/
def Reg.writable : Reg → Bool
  | .config | .seqStart | .chEn _ | .chDuty _ | .chDutyFrac _ | .curSeq _ | .stepFrac _ | .stepHold _ => true
  | .maxDuty | .status | .fault | .faultInfo | .warn | .pscDiv | .curPos _ | .curHold _ => false

/-- The access column of R81 for reads: every register but the one marked WO. -/
def Reg.readable : Reg → Bool
  | .chDutyFrac _ => false
  | _ => true

/-- Whether a register may be accessed in this direction (`we` = write). -/
def Reg.allows (we : Bool) (r : Reg) : Bool := if we then r.writable else r.readable

/-- The transaction of a host operation is one that R81's access column permits (R66). -/
def Laws.AccessPermitted.Statement (i : Instr) : Prop :=
  ∀ we r d, i.transaction = some (we, r, d) → r.allows we = true

namespace Laws.AccessPermitted

theorem configure (hz : BitVec 16) (req : Set2) : Statement (.configure hz req) := by
  intro we r d h; cases h; rfl
theorem rdConfig : Statement .rdConfig := by intro we r d h; cases h; rfl
theorem resolution : Statement .resolution := by intro we r d h; cases h; rfl
theorem rdStatus : Statement .rdStatus := by intro we r d h; cases h; rfl
theorem rdFault : Statement .rdFault := by intro we r d h; cases h; rfl
theorem rdFaultInfo : Statement .rdFaultInfo := by intro we r d h; cases h; rfl
theorem rdWarn : Statement .rdWarn := by intro we r d h; cases h; rfl
theorem rdPscDiv : Statement .rdPscDiv := by intro we r d h; cases h; rfl
theorem seqStart (sel : Set2) : Statement (.seqStart sel) := by intro we r d h; cases h; rfl
theorem rdSeqStart : Statement .rdSeqStart := by intro we r d h; cases h; rfl
theorem enable (n : Chan) : Statement (.enable n) := by intro we r d h; cases h; rfl
theorem disable (n : Chan) : Statement (.disable n) := by intro we r d h; cases h; rfl
theorem rdEn (n : Chan) : Statement (.rdEn n) := by intro we r d h; cases h; rfl
theorem setDuty (n : Chan) (value : Word) : Statement (.setDuty n value) := by intro we r d h; cases h; rfl
theorem rdDuty (n : Chan) : Statement (.rdDuty n) := by intro we r d h; cases h; rfl
theorem setDutyFrac (n : Chan) (f : Word) : Statement (.setDutyFrac n f) := by intro we r d h; cases h; rfl
theorem wrCursor (k : CurNum) (base len start : BitVec 8) (chm : Set2) :
    Statement (.wrCursor k base len start chm) := by intro we r d h; cases h; rfl
theorem rdCursor (k : CurNum) : Statement (.rdCursor k) := by intro we r d h; cases h; rfl
theorem rdPos (k : CurNum) : Statement (.rdPos k) := by intro we r d h; cases h; rfl
theorem rdHold (k : CurNum) : Statement (.rdHold k) := by intro we r d h; cases h; rfl
theorem wrStepFrac (i : StepIdx) (f : Word) : Statement (.wrStepFrac i f) := by intro we r d h; cases h; rfl
theorem wrStepHold (i : StepIdx) (h : Word) : Statement (.wrStepHold i h) := by intro we r d h; cases h; rfl
theorem rdStepFrac (i : StepIdx) : Statement (.rdStepFrac i) := by intro we r d h; cases h; rfl
theorem rdStepHold (i : StepIdx) : Statement (.rdStepHold i) := by intro we r d h; cases h; rfl
theorem timTick : Statement .timTick := by intro we r d h; cases h
theorem msTick : Statement .msTick := by intro we r d h; cases h
theorem reset : Statement .reset := by intro we r d h; cases h

end Laws.AccessPermitted

end Sys2Proof
end

