-- ==== Sys2Proof/Laws/Step.lean ====
section
/-! SUPPORT. What one step can do: the one inversion lemma through which claims about `step` reach `exec`. -/

namespace Sys2Proof.Machine

/-- R8: which event comes next, and what it finds on the ports. -/
theorem nextEvent_cases (p : Ports) :
    (p.rst = true ∧ nextEvent p = some .rst) ∨
    (∃ t, p.rst = false ∧ p.bus = some t ∧ nextEvent p = some (.bus t)) ∨
    (p.rst = false ∧ p.bus = none ∧ p.msTick = true ∧ nextEvent p = some .msTick) ∨
    (p.rst = false ∧ p.bus = none ∧ p.msTick = false ∧ p.timTick = true ∧ nextEvent p = some .timTick) ∨
    (p.rst = false ∧ p.bus = none ∧ p.msTick = false ∧ p.timTick = false ∧ nextEvent p = none) := by
  rcases p with ⟨rst, bus, ms, tim, cv, hz⟩
  cases rst <;> cases bus <;> cases ms <;> cases tim <;> simp [nextEvent]

/-- Everything the arrival of the next cycle can do: bring in the ports of the first cycle to come, or nothing (log 8). -/
theorem nextCycle_cases (s : State) :
    (∃ p rest, s.coming = p :: rest ∧ nextCycle s = { s with ports := p, coming := rest }) ∨
    (s.coming = [] ∧ nextCycle s = s) := by
  unfold nextCycle
  split
  · rename_i h; exact .inr ⟨h, rfl⟩
  · rename_i p rest h; exact .inl ⟨p, rest, h, rfl⟩

/-- R7, R8, R87: everything one step can do: an instruction on the ports that its event leaves, a refused transaction,
or the arrival of the next cycle. -/
theorem step_cases (s : State) :
    (∃ i e, nextEvent s.ports = some e ∧ step s = exec i { s with ports := takeEvent e s.ports } ∧
      (e = .rst ∧ i = .reset ∨ (∃ t, e = .bus t ∧ decode t = .ok i) ∨ e = .msTick ∧ i = .msTick ∨
        e = .timTick ∧ i = .timTick)) ∨
    (∃ t r, nextEvent s.ports = some (.bus t) ∧ decode t = .error r ∧
      step s = .next (refuse { s with ports := takeEvent (.bus t) s.ports })) ∨
    (nextEvent s.ports = none ∧ step s = .next (nextCycle s)) := by
  unfold step
  split
  · rename_i e he
    cases e with
    | rst => exact .inl ⟨_, _, he, rfl, .inl ⟨rfl, rfl⟩⟩
    | msTick => exact .inl ⟨_, _, he, rfl, .inr (.inr (.inl ⟨rfl, rfl⟩))⟩
    | timTick => exact .inl ⟨_, _, he, rfl, .inr (.inr (.inr ⟨rfl, rfl⟩))⟩
    | bus t =>
      cases hd : decode t with
      | ok i => exact .inl ⟨i, _, he, by simp [runEvent, busEvent, hd], .inr (.inl ⟨t, rfl, hd⟩)⟩
      | error r => exact .inr (.inl ⟨t, r, he, hd, by simp [runEvent, busEvent, hd]⟩)
  · rename_i he
    exact .inr (.inr ⟨he, rfl⟩)

end Sys2Proof.Machine
end

