-- ==== Sys2Proof/Tests/Slice0.lean ====
section
/-! SUPPORT. Tests of the model against the spec's own examples (the rule of each is cited; "C2", "V1" and the like are rows
of 95_test_vectors.md), and a witness for the hypotheses of each obligation. Expected values come from the spec. -/

namespace Sys2Proof.Tests

-- One theorem after another: Lean's worker threads, one for each test, exhaust the memory a build may use.
set_option Elab.async false

open Sys2Proof.Machine Sys2Proof.Claims

/-! ## Small states -/

/-- The state after an outcome (the state before it, were there none). -/
def nextOr (s : State) : Result → State
  | .next t => t
  | .fault _ => s
  | .refused _ => s

/-- The state after instruction i. -/
def after (i : Instr) (s : State) : State := nextOr s (exec i s)

/-- Reset, with the clock ports at `clk_valid`, `timclk_hz`. -/
def clocked (valid : Bool) (hz : Word) : State :=
  { State.reset with ports := { Ports.quiet with clkValid := valid, timclkHz := hz } }

/-- C2: both channels, `max_duty` = 2000. -/
def boot : State := after (.configure 50 3) (clocked true 100000)

/-- C8: a failed CONFIGURE. -/
def failed : State := after (.configure 50 1) (clocked false 100000)

/-- The table of R135's example, loaded after C2. -/
def tabled : State :=
  after (.wrStepHold 1 1000) (after (.wrStepFrac 1 4915) (after (.wrStepHold 0 1000) (after (.wrStepFrac 0 1638) boot)))

/-- Program P2's cursors: one shared Sequence, one step apart. -/
def loaded : State := after (.wrCursor 1 0 2 1 2) (after (.wrCursor 0 0 2 0 1) tabled)

/-- After SEQ_START {0,1}. -/
def started : State := after (.seqStart 3) loaded

/-- `started` in the last millisecond of both holds. -/
def dueBoth : State := { started with holdRem := #v[1, 1] }

/-- V9: the sequencer Fatal. -/
def dead : State := after (.seqStart 1) (after (.wrStepHold 1 0) loaded)

/-- An enabled channel 0 with duty 50 waiting, at the last tick of a frame (T2). -/
def wrapping : State := { after (.setDuty 0 50) (after (.enable 0) boot) with cnt := 1999 }

/-- The smallest timer: `psc_div` = 64, `max_duty` = 62500 (C4) at the last prescaler count. -/
def slow : State := { after (.configure 50 3) (clocked true 200000000) with pscCnt := 63 }

/-! ## Well-formedness: each check refuses an ill-formed term -/

theorem test_wf_configure_hz_zero : (Instr.configure 0 1).wellFormed = false := by decide
theorem test_wf_configure_set_empty : (Instr.configure 50 0).wellFormed = false := by decide
theorem test_wf_seqStart_set_empty : (Instr.seqStart 0).wellFormed = false := by decide
theorem test_wf_others : (Instr.configure 50 2).wellFormed = true ∧ (Instr.seqStart 2).wellFormed = true ∧
    (Instr.wrStepHold 15 0).wellFormed = true := by decide

/-! ## Decoding: words written out from R80 to R86 and section 2.8 -/

theorem test_decode_configure : decode 0x10000010032 = .ok (.configure 50 1) := by decide
theorem test_decode_configure_reserved : decode 0x100FFFD0032 = .ok (.configure 50 1) := by decide
theorem test_decode_rdConfig : decode 0x000DEADBEEF = .ok .rdConfig := by decide
theorem test_decode_resolution : decode 0x00400000000 = .ok .resolution := by decide
theorem test_decode_rdStatus : decode 0x00800000000 = .ok .rdStatus := by decide
theorem test_decode_rdFault : decode 0x00C00000000 = .ok .rdFault := by decide
theorem test_decode_rdFaultInfo : decode 0x01000000000 = .ok .rdFaultInfo := by decide
theorem test_decode_rdWarn : decode 0x01400000000 = .ok .rdWarn := by decide
theorem test_decode_rdPscDiv : decode 0x01800000000 = .ok .rdPscDiv := by decide
theorem test_decode_seqStart : decode 0x11C00000002 = .ok (.seqStart 2) := by decide
theorem test_decode_rdSeqStart : decode 0x01C00000000 = .ok .rdSeqStart := by decide
theorem test_decode_enable : decode 0x120FFFFFFFF = .ok (.enable 0) ∧ decode 0x13000000001 = .ok (.enable 1) := by decide
theorem test_decode_disable : decode 0x120FFFFFFFE = .ok (.disable 0) ∧ decode 0x13000000002 = .ok (.disable 1) := by
  decide
theorem test_decode_rdEn : decode 0x03000000000 = .ok (.rdEn 1) := by decide
theorem test_decode_setDuty : decode 0x12480000000 = .ok (.setDuty 0 0x80000000) := by decide
theorem test_decode_rdDuty : decode 0x03400000000 = .ok (.rdDuty 1) := by decide
theorem test_decode_setDutyFrac : decode 0x13800001333 = .ok (.setDutyFrac 1 4915) := by decide
theorem test_decode_wrCursor : decode 0x15002010200 = .ok (.wrCursor 1 0 2 1 2) := by decide
theorem test_decode_wrCursor_fields : decode 0x14001030F0E = .ok (.wrCursor 0 14 15 3 1) := by decide
theorem test_decode_rdCursor : decode 0x04000000000 = .ok (.rdCursor 0) := by decide
theorem test_decode_rdPos : decode 0x05400000000 = .ok (.rdPos 1) := by decide
theorem test_decode_rdHold : decode 0x05800000000 = .ok (.rdHold 1) := by decide
theorem test_decode_wrStepFrac : decode 0x1F800000666 = .ok (.wrStepFrac 15 1638) := by decide
theorem test_decode_wrStepHold : decode 0x1FC00000001 = .ok (.wrStepHold 15 1) := by decide
theorem test_decode_rdStepFrac : decode 0x08800000000 = .ok (.rdStepFrac 1) := by decide
theorem test_decode_rdStepHold : decode 0x0A400000000 = .ok (.rdStepHold 4) := by decide
theorem test_decode_misaligned : decode 0x18700000000 = .error .misaligned := by decide
theorem test_decode_unmapped : decode 0x16000000000 = .error .unmapped := by decide
theorem test_decode_readOnly : decode 0x15800000000 = .error .readOnly := by decide
theorem test_decode_writeOnly : decode 0x02800000000 = .error .writeOnly := by decide

/-- Section 2.8: over all 512 pairs of `we` and `addr`, the decoder and the printed table agree on the row (both forms of
`wdata[0]`). -/
theorem test_decode_agrees_with_table : ∀ (we b : Bool) (a : Offset),
    (match decode (busWord we a (if b then 1 else 0)) with | .ok i => some i.mnemonic | .error _ => none) =
      (opRows.find? fun r => r.selects (busWord we a (if b then 1 else 0))).map OpRow.mnemonic := by decide +kernel

/-- The table's rows encode as R91 writes them. -/
theorem test_encode_textual : encode (.setDuty 0 (-5)) = some 0x124FFFFFFFB ∧ encode (.wrStepHold 1 1000) = some 0x18C000003E8 ∧
    encode (.seqStart 3) = some 0x11C00000003 ∧ encode .timTick = none := by decide

/-- The host's view: the first bits are the whole word; a number above 41 bits is no transaction. -/
theorem test_decodeTableWord : decodeTableWord 48 0x10000010032 = some (.configure 50 1) ∧
    decodeTableWord 48 0x20000000000 = none := by decide

/-- A word on the bus is what the next step runs. -/
theorem test_withFetchWord : (nextOr State.reset (step (State.reset.withFetchWord 48 0x18000000666))).stepFrac[0] = 1638 := by
  decide +kernel

/-! ## The meanings, on the spec's examples -/

theorem test_configure_C2 : boot.drvState = .configured ∧ boot.carrierHz = 50 ∧ boot.alloc = 3 ∧ boot.pscDiv = 1 ∧
    boot.maxDuty = 2000 ∧ boot.resp = some ⟨0, false⟩ := by decide +kernel
theorem test_configure_C13 : (after (.configure 60 1) (clocked false 100000)).faultCause = 1 ∧
    (after (.configure 60 1) (clocked true 100000)).faultCause = 2 ∧
    (after (.configure 50 1) (clocked true 100000020)).faultCause = 3 := by decide +kernel
theorem test_rdConfig : (after .rdConfig boot).resp = some ⟨0x00030032, false⟩ := by decide +kernel
theorem test_resolution_E11 : (after .resolution boot).resp = some ⟨2000, false⟩ := by decide +kernel
theorem test_rdStatus_R116 : (after .rdStatus started).resp = some ⟨5, false⟩ ∧ (after .rdStatus failed).resp = some ⟨0x12, false⟩
    ∧ (after .rdStatus dead).resp = some ⟨0x19, false⟩ := by decide +kernel
theorem test_rdFault_R117 : (after .rdFault (after (.enable 0) State.reset)).resp = some ⟨4, false⟩ := by decide +kernel
theorem test_rdFaultInfo_V9 : (after .rdFaultInfo dead).resp = some ⟨0x109, false⟩ := by decide +kernel
theorem test_rdWarn_R119 : (after .rdWarn (after (.setDuty 1 (-1)) boot)).resp = some ⟨2, false⟩ := by decide +kernel
theorem test_rdPscDiv_R120 : (after .rdPscDiv slow).resp = some ⟨64, false⟩ := by decide +kernel
theorem test_enable_E4 : (after (.enable 1) boot).enabled = #v[false, true] ∧
    (after (.enable 1) (after (.configure 50 1) (clocked true 100000))).faultUsage = true := by decide +kernel
theorem test_disable_E3 : (after (.disable 0) wrapping).enabled = #v[false, false] ∧
    (after (.disable 0) wrapping).dutyValue = #v[50, 0] := by decide +kernel
theorem test_rdEn_E9 : (after (.rdEn 0) wrapping).resp = some ⟨1, false⟩ ∧ (after (.rdEn 1) wrapping).resp = some ⟨0, false⟩ := by
  decide +kernel
theorem test_setDuty_above : (after (.setDuty 0 70000) boot).dutyValue = #v[2000, 0] ∧
    (after (.setDuty 0 70000) boot).log = [.sat 0 .above 2000] := by decide +kernel
theorem test_setDuty_below : (after (.setDuty 1 0x80000000) boot).dutyValue = #v[0, 0] ∧
    (after (.setDuty 1 0x80000000) boot).log = [.sat 1 .below 0] := by decide +kernel
theorem test_rdDuty : (after (.rdDuty 0) wrapping).resp = some ⟨50, false⟩ := by decide +kernel
theorem test_setDutyFrac_G4 : (after (.setDutyFrac 0 65537) boot).dutyValue = #v[2000, 0] ∧
    (after (.setDutyFrac 0 65537) boot).log = [] := by decide +kernel
theorem test_setDutyFrac_F6 : (after (.setDutyFrac 1 2048) boot).dutyValue = #v[0, 63] := by decide +kernel
theorem test_wrCursor_W6 : loaded.curStart = #v[0, 1] ∧ loaded.curLen = #v[2, 2] ∧ loaded.curChm = #v[1, 2] := by
  decide +kernel
theorem test_rdCursor_W5 : (after (.rdCursor 0) loaded).resp = some ⟨0x01000200, false⟩ := by decide +kernel
theorem test_rdPos_R139 : (after (.rdPos 1) started).resp = some ⟨0x101, false⟩ := by decide +kernel
theorem test_rdHold : (after (.rdHold 0) started).resp = some ⟨1000, false⟩ := by decide +kernel
theorem test_wrStepFrac_W3 : (after (.rdStepFrac 15) (after (.wrStepFrac 15 131072) State.reset)).resp = some ⟨131072, false⟩ := by
  decide +kernel
theorem test_wrStepHold_W4 :
    (after (.rdStepHold 15) (after (.wrStepHold 15 0xFFFFFFFF) State.reset)).resp = some ⟨0xFFFFFFFF, false⟩ := by
  decide +kernel
theorem test_wrStep_locked_V19 : (after (.wrStepFrac 0 0) started).stepFrac[0] = 1638 ∧
    (after (.wrStepFrac 0 0) started).resp = some ⟨0, true⟩ := by decide +kernel
theorem test_seqStart : started.dutyValue = #v[50, 150] ∧ started.idx = #v[0, 1] ∧ started.holdRem = #v[1000, 1000] ∧
    started.log = [.step 0 0 0 1638 50, .step 1 1 1 4915 150] := by decide +kernel
theorem test_seqStart_V12 : (after (.seqStart 3) (after (.wrCursor 1 0 3 0 2) loaded)).faultStep = 2 ∧
    (after (.seqStart 3) (after (.wrCursor 1 0 3 0 2) loaded)).faultCur = 1 := by decide +kernel
theorem test_rdSeqStart : (after .rdSeqStart started).resp = some ⟨3, false⟩ := by decide +kernel
theorem test_timTick_T3 : (after .timTick wrapping).dutyActive = #v[50, 0] ∧ (after .timTick wrapping).cnt = 0 ∧
    pwmOut (after .timTick wrapping) 0 = true := by decide +kernel
theorem test_timTick_T11 : (after .timTick slow).pscCnt = 0 ∧ (after .timTick slow).cnt = 1 := by decide +kernel
theorem test_msTick_wrap : (after .msTick dueBoth).idx = #v[1, 0] ∧ (after .msTick dueBoth).dutyValue = #v[150, 50] ∧
    (after .msTick dueBoth).holdRem = #v[1000, 1000] := by decide +kernel
theorem test_msTick_M1 : (after .msTick started).holdRem = #v[999, 999] ∧ (after .msTick started).dutyValue = #v[50, 150] := by
  decide +kernel
theorem test_reset_X1 : after .reset started = clocked true 100000 := by decide +kernel
theorem test_record_words : (LogRec.word (.step 0 0 0 1638 50)) = 0x0000066600032001 ∧
    (LogRec.word (.step 0 0 1 4915 150)) = 0x0000133300096011 := by decide

/-! ## Witnesses: the hypotheses of each obligation can be met -/

/-- The invariants from their parts, each of which can be decided on a concrete state. -/
theorem invariants_of {s : State}
    (h₁ : (s.carrierHz = 0 ∨ s.carrierHz = 50) ∧ s.pscDiv.toNat ≤ 65536 ∧ s.maxDuty.toNat ≤ 65536 ∧
      s.faultCause.toNat ≤ 9 ∧ s.faultStep.toNat ≤ 15)
    (h₂ : (s.drvState ≠ .configured → s.carrierHz = 0 ∧ s.alloc = 0 ∧ s.pscDiv = 0) ∧
      (s.drvState = .configured ↔ 1 ≤ s.maxDuty.toNat) ∧
      (s.drvState = .configured → 1 ≤ s.pscDiv.toNat ∧ s.carrierHz = 50 ∧ s.alloc ≠ 0))
    (h₃ : s.drvState ≠ .configured → (∀ n : Chan, s.enabled[n.val] = false) ∧ (∀ n : Chan, s.dutyValue[n.val] = 0) ∧
      (∀ n : Chan, s.dutyActive[n.val] = 0) ∧ s.cnt = 0 ∧ s.pscCnt = 0 ∧ s.seqState = .idle)
    (h₄ : (∀ n : Chan, s.dutyValue[n.val].toNat ≤ s.maxDuty.toNat ∧ s.dutyActive[n.val].toNat ≤ s.maxDuty.toNat) ∧
      (∀ n : Chan, s.enabled[n.val] = true → inSet s.alloc n = true) ∧
      (s.drvState = .configured → s.cnt.toNat < s.maxDuty.toNat ∧ s.pscCnt.toNat < s.pscDiv.toNat))
    (h₅ : (s.faultHwinit = true ↔ s.drvState = .initFailed) ∧ (s.faultInvalidStep = true ↔ s.seqState = .fatal) ∧
      (fatal s = false → s.faultCause = 0 ∧ s.faultCur = 0 ∧ s.faultStep = 0))
    (h₆ : ∀ k : CurNum, s.running[k.val] = true → s.seqState = .running ∧
      s.idx[k.val].toNat < s.curLen[k.val].toNat ∧ s.curBase[k.val].toNat + s.curLen[k.val].toNat ≤ 16 ∧
      1 ≤ s.holdRem[k.val].toNat ∧ s.seqMaxDuty = s.maxDuty ∧
      ∀ i : StepIdx, s.curBase[k.val].toNat ≤ i.val → i.val < s.curBase[k.val].toNat + s.curLen[k.val].toNat →
        s.stepFrac[i.val].toNat ≤ 65536 ∧ 1 ≤ s.stepHold[i.val].toNat) : Invariants s where
  legal := ⟨h₁.1, h₁.2.1, h₁.2.2.1, h₁.2.2.2.1, h₁.2.2.2.2⟩
  unconfigured_zero := h₂.1
  configured_iff := h₂.2.1
  configured_timer := h₂.2.2
  driver_clear h := ⟨(h₃ h).1, (h₃ h).2.1, (h₃ h).2.2.1, (h₃ h).2.2.2.1, (h₃ h).2.2.2.2.1, (h₃ h).2.2.2.2.2⟩
  duty_le := h₄.1
  enabled_alloc := h₄.2.1
  counters := h₄.2.2
  hwinit_iff := h₅.1
  invalid_iff := h₅.2.1
  fatal_info := h₅.2.2
  cursors k h := ⟨(h₆ k h).1, (h₆ k h).2.1, (h₆ k h).2.2.1, (h₆ k h).2.2.2.1, (h₆ k h).2.2.2.2.1, (h₆ k h).2.2.2.2.2⟩

theorem witness_invariants_boot : Invariants boot := by apply invariants_of <;> decide +kernel
theorem witness_invariants_failed : Invariants failed ∧ failed.drvState = .initFailed := by
  exact ⟨by apply invariants_of <;> decide +kernel, by decide +kernel⟩
theorem witness_invariants_started : Invariants started ∧ started.seqState = .running ∧ started.running = #v[true, true] := by
  exact ⟨by apply invariants_of <;> decide +kernel, by decide +kernel⟩
theorem witness_invariants_dueBoth : Invariants dueBoth ∧ Due dueBoth 0 ∧ Due dueBoth 1 := by
  exact ⟨by apply invariants_of <;> decide +kernel, by unfold Due; decide +kernel, by unfold Due; decide +kernel⟩
theorem witness_invariants_dead : Invariants dead ∧ dead.seqState = .fatal := by
  exact ⟨by apply invariants_of <;> decide +kernel, by decide +kernel⟩
theorem witness_invariants_wrapping : Invariants wrapping ∧ wrapping.enabled[0] = true := by
  exact ⟨by apply invariants_of <;> decide +kernel, by decide +kernel⟩
theorem witness_invariants_slow : Invariants slow := by apply invariants_of <;> decide +kernel

/-- Every instruction is answered with the state `after` names. -/
theorem exec_after (i : Instr) (s : State) : exec i s = .next (after i s) := by cases i <;> rfl

/-- C1: channel 0 alone. -/
def single : State := after (.configure 50 1) (clocked true 100000)

/-- C6: `psc_div` = 1 and `max_duty` = 1, the smallest; C5: `max_duty` = 65536, the largest. -/
def smallest : State := after (.configure 50 1) (clocked true 50)

def largest : State := after (.configure 50 1) (clocked true 3276800)

/-- All events waiting at once, at a frame's last tick: the bus writes duty 150 to channel 0 (T15). -/
def crowded : State :=
  { wrapping with ports := { wrapping.ports with bus := some 0x12400000096, msTick := true, timTick := true } }

/-- No event in the present cycle, the crowded one to come. -/
def waiting : State := { started with coming := [crowded.ports] }

/-- Both cursors on channel 0 (R209), loaded and then in the last millisecond of both holds. -/
def sharing : State := after (.wrCursor 1 0 2 1 1) loaded

def dueSharing : State := { after (.seqStart 3) sharing with holdRem := #v[1, 1] }

/-- The one millisecond in which cursor 0 alone advances, and the one in which cursor 1 alone does. -/
def dueFirst : State := { started with holdRem := #v[1, 2] }

def dueSecond : State := { started with holdRem := #v[2, 1] }

theorem witness_DecodeOfEncodeIsIdentity :
    Instr.rdHold 1 ≠ .timTick ∧ Instr.rdHold 1 ≠ .msTick ∧ Instr.rdHold 1 ≠ .reset := by decide
theorem witness_EncodeOfDecodeKeepsTransaction : decode 0x05800000007 = .ok (.rdHold 1) := by decide
theorem witness_TransactionSelectsOneTableRow :
    (∃ r ∈ opRows, (0x10000010032 : BusWord) &&& r.mask = r.pattern) ∧
    (∀ r ∈ opRows, (0x02C00000000 : BusWord) &&& r.mask ≠ r.pattern) := by decide +kernel
theorem witness_IllegalTransactionsAreRefused :
    Illegal 0x00100000000 ∧ Illegal 0x1FF00000000 ∧ Illegal 0x02C00000000 ∧ Illegal 0x15C00000000 ∧ Illegal 0x06000000000 ∧
    Illegal 0x17C00000000 ∧ Illegal 0x10400000000 ∧ Illegal 0x15800000000 ∧ Illegal 0x02800000000 ∧ Illegal 0x03800000000 ∧
    ¬ Illegal 0x12800000000 ∧ ¬ Illegal 0x05800000000 := by
  refine ⟨?_, ?_, ?_, ?_, ?_, ?_, ?_, ?_, ?_, ?_, ?_, ?_⟩ <;> unfold Illegal unmappedOffset readOnlyOffset <;> decide +kernel
theorem witness_StepRunsPendingEvent :
    (crowded.ports.rst = false ∧ crowded.ports.bus = some 0x12400000096 ∧ decode 0x12400000096 = .ok (.setDuty 0 150)) ∧
    (∃ e, decode 0x02C00000000 = .error e) ∧
    (({ crowded.ports with bus := none } : Ports).msTick = true) ∧
    (({ crowded.ports with bus := none, msTick := false } : Ports).timTick = true) ∧
    (({ crowded.ports with rst := true } : Ports).rst = true) ∧
    (waiting.ports.rst = false ∧ waiting.ports.bus = none ∧ waiting.ports.msTick = false ∧ waiting.ports.timTick = false ∧
      waiting.coming = [crowded.ports]) ∧ started.coming = [] := by
  exact ⟨by decide +kernel, ⟨.unmapped, by decide⟩, by decide +kernel, by decide +kernel, rfl, by decide +kernel⟩
theorem witness_CoincidentEventsRunInOrder :
    (crowded.ports.rst = false ∧ crowded.ports.bus = some 0x12400000096 ∧ crowded.ports.msTick = true ∧
      crowded.ports.timTick = true) ∧
    decode 0x12400000096 = .ok (.setDuty 0 150) ∧ Open wrapping 0 ∧ FrameEnds wrapping ∧ FrameEnds smallest := by
  unfold Open FrameEnds; decide +kernel
theorem witness_InstructionsKeepEnvironment : exec .msTick started = .next (after .msTick started) := exec_after _ _
theorem witness_OnlyConfigureReadsClockPorts :
    (∀ h r, Instr.timTick ≠ .configure h r) ∧ exec .timTick wrapping = .next (after .timTick wrapping) :=
  ⟨by simp, exec_after _ _⟩
theorem witness_DriverReadsReturnTheirWords :
    (Invariants failed ∧ failed.drvState ≠ .configured) ∧
    (Invariants boot ∧ boot.faultHwinit = false ∧ boot.faultInvalidStep = false ∧ boot.drvState = .configured) ∧
    exec (.enable 0) boot = .next (after (.enable 0) boot) :=
  ⟨⟨witness_invariants_failed.1, by decide +kernel⟩, ⟨witness_invariants_boot, by decide +kernel⟩, exec_after _ _⟩
theorem witness_ChannelReadsReturnTheirWords :
    (Invariants failed ∧ failed.drvState ≠ .configured) ∧ (Invariants single ∧ single.alloc.getLsbD 1 = false) ∧
    hostRead 0x24 boot = .next (after (.rdDuty 0) boot) :=
  ⟨⟨witness_invariants_failed.1, by decide +kernel⟩, ⟨by apply invariants_of <;> decide +kernel, by decide +kernel⟩, rfl⟩
theorem witness_SequencerReadsReturnTheirWords :
    (Invariants started ∧ started.running[1] = true) ∧
    (exec .timTick started = .next (after .timTick started) ∧ ∀ m, Instr.timTick ≠ .seqStart m) :=
  ⟨⟨witness_invariants_started.1, by decide +kernel⟩, exec_after _ _, by simp⟩
theorem witness_HostReadsHaveNoSideEffect :
    memWord started 0x00 = some 0x00030032 ∧ memWord started 0xFC = some 0 ∧ memWord started 0x28 = none ∧
    memWord started 0x60 = none ∧ memWord started 0xFF = none := by decide +kernel
theorem witness_ConfigureOutcome :
    (boot.drvState ≠ .unconfigured ∧ (clocked true 0).drvState = .unconfigured) ∧
    ((clocked false 100000).ports.clkValid = false ∧ (clocked true 100000).ports.clkValid = true) ∧
    ((49 : BitVec 16) ≠ 50 ∧ (51 : BitVec 16) ≠ 50 ∧ (50 : BitVec 16) ≠ 0 ∧ (3 : Set2) ≠ 0) ∧
    deriveDividers [] 49 50 = none ∧ deriveDividers [] 0 50 = none ∧ deriveDividers [] 50 50 = some (1, 1) ∧
    deriveDividers [] 3276800 50 = some (1, 65536) := by decide +kernel
theorem witness_ConfigureAcceptedOnce : boot.drvState ≠ .unconfigured ∧ failed.drvState ≠ .unconfigured ∧
    exec .timTick boot = .next (after .timTick boot) := ⟨by decide +kernel, by decide +kernel, exec_after _ _⟩
theorem witness_DividerPairsAreExact :
    (deriveDividers [⟨100000, 50, some (2, 1000)⟩] 100000 50 = some (2, 1000)) ∧
    (∀ p m, 1 ≤ p → p ≤ 65536 → 1 ≤ m → m ≤ 65536 → p * m * (50 : BitVec 16).toNat ≠ (49 : Word).toNat) ∧
    (exec (.configure 50 3) (clocked true 100000) = .next boot ∧ (clocked true 100000).drvState = .unconfigured ∧
      boot.drvState = .configured) := by
  refine ⟨by decide +kernel, fun p m _ _ _ _ h => ?_, exec_after _ _, by decide +kernel, by decide +kernel⟩
  simp at h
  omega
theorem witness_TimerConfigurationIsImmutable :
    exec (.setDuty 0 1) boot = .next (after (.setDuty 0 1) boot) ∧ boot.drvState = .configured :=
  ⟨exec_after _ _, by decide +kernel⟩
theorem witness_channel_open_and_closed :
    Open boot 0 ∧ Open boot 1 ∧ Open single 0 ∧ ¬ Open single 1 ∧ ¬ Open State.reset 0 ∧ ¬ Open failed 0 := by
  unfold Open; decide +kernel
theorem witness_EnableOutcome : Open boot 1 ∧ ¬ Open single 1 ∧ (1 : Word).getLsbD 0 = true ∧
    (0xFFFFFFFF : Word).getLsbD 0 = true := by unfold Open; decide +kernel
theorem witness_DisableOutcome : Open boot 1 ∧ ¬ Open single 1 ∧ (0 : Word).getLsbD 0 = false ∧
    (0xFFFFFFFE : Word).getLsbD 0 = false := by unfold Open; decide +kernel
theorem witness_DutyWriteClampsAndWarns : Open boot 0 := by unfold Open; decide +kernel
theorem witness_SetDutyOutcome : Open boot 0 ∧ ¬ Open failed 0 := by unfold Open; decide +kernel
theorem witness_SetDutyFracOutcome : Open boot 0 ∧ ¬ Open failed 0 ∧ (65536 : Word).toNat ≤ 65536 := by
  unfold Open; decide +kernel
theorem witness_FractionMapperLaws : 0xFFFFFFFF < 2 ^ 32 ∧ 65536 ≤ 2 ^ 16 := by decide
theorem witness_RoundTripAccuracy : 65536 ≤ 65536 ∧ 1 ≤ 1 ∧ 40 ≤ 40 ∧ 1 ≤ 40 := by decide
theorem witness_StepTableWriteOutcome : started.seqState ≠ .idle ∧ dead.seqState ≠ .idle ∧ boot.seqState = .idle := by
  decide +kernel
theorem witness_CursorWriteOutcome : started.seqState ≠ .idle ∧ dead.seqState ≠ .idle ∧ boot.seqState = .idle := by
  decide +kernel
theorem witness_WritesChangeOneOffset :
    (loaded.seqState = .idle ∧ exec (.wrStepFrac 15 7) loaded = .next (after (.wrStepFrac 15 7) loaded)) ∧
    exec (.wrStepHold 0 7) loaded = .next (after (.wrStepHold 0 7) loaded) ∧
    exec (.wrCursor 1 0 1 0 1) loaded = .next (after (.wrCursor 1 0 1 0 1) loaded) ∧
    (Open loaded 1 ∧ exec (.enable 1) loaded = .next (after (.enable 1) loaded)) ∧
    exec (.setDuty 1 7) loaded = .next (after (.setDuty 1 7) loaded) :=
  ⟨⟨by decide +kernel, exec_after _ _⟩, exec_after _ _, exec_after _ _, ⟨by unfold Open; decide +kernel, exec_after _ _⟩,
    exec_after _ _⟩
theorem witness_ValidationFindsFirstFailure :
    validate loaded 3 = none ∧ validate (after (.wrCursor 0 0 0 0 1) loaded) 3 = some (.seqEmpty 0) ∧
    validate (after (.wrCursor 0 15 2 0 1) loaded) 1 = some (.seqRange 0) ∧
    validate (after (.wrCursor 0 255 255 0 1) loaded) 1 = some (.seqRange 0) ∧
    validate (after (.wrCursor 0 0 2 2 1) loaded) 1 = some (.startRange 0) ∧
    validate (after (.wrCursor 1 0 2 0 0) loaded) 2 = some (.channelSet 1) ∧
    validate (after (.wrStepFrac 1 65537) loaded) 1 = some (.fractionRange 0 1) ∧
    validate (after (.wrStepHold 1 0) loaded) 2 = some (.holdZero 1 1) := by decide +kernel
theorem witness_SeqStartOutcome :
    (State.reset.drvState ≠ .configured ∧ started.seqState ≠ .idle) ∧
    (loaded.drvState = .configured ∧ loaded.seqState = .idle ∧ (3 : Set2) ≠ 0 ∧ validate loaded 3 = none) ∧
    validate (after (.wrStepHold 1 0) loaded) 1 = some (.holdZero 0 1) ∧
    (sharing.drvState = .configured ∧ sharing.seqState = .idle ∧ validate sharing 3 = none ∧ sharing.curChm = #v[1, 1]) ∧
    (after (.seqStart 3) sharing).dutyValue = #v[150, 0] := by decide +kernel
theorem witness_ApplyWritesTheCursorsChannels : Invariants started ∧ started.running[1] = true ∧
    4915 = tableFrac started (started.curBase[1].toNat + started.idx[1].toNat) :=
  ⟨witness_invariants_started.1, by decide +kernel⟩
theorem witness_TimTickOutcome :
    (State.reset.pscDiv.toNat ≤ 65536 ∧ State.reset.maxDuty.toNat ≤ 65536 ∧ State.reset.drvState ≠ .configured) ∧
    (slow.pscDiv.toNat ≤ 65536 ∧ slow.maxDuty.toNat ≤ 65536 ∧ slow.drvState = .configured ∧
      (({ slow with pscCnt := 62 } : State).pscCnt.toNat : Int) < slow.pscDiv.toNat - 1) ∧
    (¬ (slow.pscCnt.toNat : Int) < slow.pscDiv.toNat - 1 ∧ (slow.cnt.toNat : Int) < slow.maxDuty.toNat - 1) ∧
    (wrapping.pscDiv.toNat ≤ 65536 ∧ wrapping.maxDuty.toNat ≤ 65536 ∧ wrapping.drvState = .configured ∧
      ¬ (wrapping.pscCnt.toNat : Int) < wrapping.pscDiv.toNat - 1 ∧
      ¬ (wrapping.cnt.toNat : Int) < wrapping.maxDuty.toNat - 1) := by decide +kernel
theorem witness_FrameIsPscTimesMaxTicks :
    (Invariants largest ∧ largest.drvState = .configured ∧ largest.cnt = 0 ∧ largest.pscCnt = 0) ∧
    0 < largest.pscDiv.toNat * largest.maxDuty.toNat ∧ 65535 < largest.pscDiv.toNat * largest.maxDuty.toNat :=
  ⟨⟨by apply invariants_of <;> decide +kernel, by decide +kernel⟩, by decide +kernel, by decide +kernel⟩
theorem witness_PulseIsDutyTicksWide :
    Invariants (after .timTick wrapping) ∧ (after .timTick wrapping).drvState = .configured ∧
    (after .timTick wrapping).enabled[0] = true ∧ (after .timTick wrapping).cnt = 0 ∧
    (after .timTick wrapping).pscCnt = 0 ∧ 1999 < (after .timTick wrapping).pscDiv.toNat * (after .timTick wrapping).maxDuty.toNat :=
  ⟨by apply invariants_of <;> decide +kernel, by decide +kernel⟩
/-- The two end values of the duty, each in a state with the invariants. -/
theorem witness_PulseIsDutyTicksWide_ends :
    (Invariants wrapping ∧ wrapping.dutyActive[0] = 0) ∧
    (Invariants (after .timTick (after (.setDuty 0 2000) wrapping)) ∧
      (after .timTick (after (.setDuty 0 2000) wrapping)).enabled[0] = true ∧
      (after .timTick (after (.setDuty 0 2000) wrapping)).dutyActive[0] = 2000) :=
  ⟨⟨witness_invariants_wrapping.1, by decide +kernel⟩, by apply invariants_of <;> decide +kernel, by decide +kernel⟩
theorem witness_ActiveDutyChangesAtFrameStartOnly :
    FrameEnds wrapping ∧ exec .timTick wrapping = .next (after .timTick wrapping) ∧
    (after .timTick wrapping).dutyActive ≠ wrapping.dutyActive :=
  ⟨by unfold FrameEnds; decide +kernel, exec_after _ _, by decide +kernel⟩
theorem witness_MsTickOutcome :
    (Invariants boot ∧ boot.seqState ≠ .running) ∧
    (Invariants dueFirst ∧ dueFirst.seqState = .running ∧ Due dueFirst 0 ∧ ¬ Due dueFirst 1 ∧ dueFirst.curChm[0].getLsbD 0 = true) ∧
    (Invariants dueSecond ∧ ¬ Due dueSecond 0 ∧ Due dueSecond 1 ∧ dueSecond.curChm[1].getLsbD 1 = true) ∧
    (Invariants dueSharing ∧ (Due dueSharing 0 ∧ Due dueSharing 1) ∧ dueSharing.curChm = #v[1, 1] ∧
      (after .msTick dueSharing).dutyValue = #v[50, 0]) ∧
    (Invariants (after (.seqStart 1) loaded) ∧ (after (.seqStart 1) loaded).running[1] = false) :=
  ⟨⟨witness_invariants_boot, by decide +kernel⟩,
    ⟨by apply invariants_of <;> decide +kernel, by unfold Due; decide +kernel⟩,
    ⟨by apply invariants_of <;> decide +kernel, by unfold Due; decide +kernel⟩,
    ⟨by apply invariants_of <;> decide +kernel, by unfold Due; decide +kernel, by decide +kernel⟩,
    by apply invariants_of <;> decide +kernel, by decide +kernel⟩
theorem witness_CursorsAreIndependent :
    (1 : CurNum) ≠ 0 ∧ exec .msTick dueFirst = .next (after .msTick dueFirst) ∧
    exec (.seqStart 3) loaded = .next (after (.seqStart 3) loaded) := ⟨by decide, exec_after _ _, exec_after _ _⟩
theorem witness_HoldLastsExactly :
    Invariants started ∧ started.running[0] = true ∧ 0 < started.holdRem[0].toNat ∧ 999 < started.holdRem[0].toNat :=
  ⟨witness_invariants_started.1, by decide +kernel⟩
theorem witness_SequenceRunsCircularly :
    (Invariants started ∧ started.running[1] = true) ∧
    (ticksToAdvance started 1 0 ≤ 0 ∧ 999 < ticksToAdvance started 1 1) ∧
    (ticksToAdvance started 1 1 ≤ 1000 ∧ 1999 < ticksToAdvance started 1 2) ∧
    (started.running[0] = true ∧ started.curBase[0] = started.curBase[1] ∧ started.curLen[0] = started.curLen[1] ∧
      started.holdRem[0] = started.holdRem[1] ∧
      ∀ j, j < started.curLen[0].toNat → stepHoldOf started 0 j = stepHoldOf started 0 0) :=
  ⟨⟨witness_invariants_started.1, by decide +kernel⟩, by decide +kernel, by decide +kernel, by decide +kernel⟩
theorem witness_InitFailedIsFinal :
    FatalError.isHardwareInit .clkInvalid = true ∧ Invariants failed ∧ failed.drvState = .initFailed ∧
    exec .msTick failed = .next (after .msTick failed) :=
  ⟨rfl, witness_invariants_failed.1, witness_invariants_failed.2, exec_after _ _⟩
theorem witness_SequencerFatalIsFinal :
    FatalError.isHardwareInit (.holdZero 1 15) = false ∧ Invariants dead ∧ dead.seqState = .fatal ∧ Open dead 0 ∧
    (dead.pscDiv.toNat ≤ dead.pscCnt.toNat + 1 ∧ dead.cnt.toNat + 1 < dead.maxDuty.toNat) :=
  ⟨rfl, witness_invariants_dead.1, witness_invariants_dead.2, by unfold Open; decide +kernel, by decide +kernel⟩
theorem witness_RefusedExactlyWhenListed :
    decode 0x10000010032 = .ok (.configure 50 1) ∧ PreconditionFails boot (.configure 50 1) ∧
    ¬ PreconditionFails State.reset (.configure 50 1) ∧ PreconditionFails single (.enable 1) ∧
    PreconditionFails started (.wrStepHold 0 1) ∧ PreconditionFails loaded (.seqStart 0) ∧
    ¬ PreconditionFails loaded (.seqStart 3) := by
  unfold PreconditionFails Open; decide +kernel
theorem witness_FaultFlagsAreSticky :
    exec (.configure 50 1) (clocked false 100000) = .next failed ∧ (clocked false 100000).faultHwinit = false ∧
    failed.faultHwinit = true ∧
    (exec (.seqStart 1) (after (.wrStepHold 1 0) loaded) = .next dead ∧ dead.faultInvalidStep = true) ∧
    (exec (.enable 1) single = .next (after (.enable 1) single) ∧ single.faultUsage = false ∧
      (after (.enable 1) single).faultUsage = true) :=
  ⟨exec_after _ _, by decide +kernel, by decide +kernel, ⟨exec_after _ _, by decide +kernel⟩, exec_after _ _, by decide +kernel⟩
theorem witness_FatalCauseIsWrittenOnce :
    (Invariants dead ∧ fatal dead = true ∧ exec (.setDuty 0 1) dead = .next (after (.setDuty 0 1) dead)) ∧
    (Invariants boot ∧ fatal boot = false ∧ fatal (after .msTick boot) = false) :=
  ⟨⟨witness_invariants_dead.1, by decide +kernel, exec_after _ _⟩, witness_invariants_boot, by decide +kernel⟩
theorem witness_SaturationFlagIsSticky :
    exec (.setDuty 0 2001) boot = .next (after (.setDuty 0 2001) boot) ∧ boot.warnSat[0] = false ∧
    (after (.setDuty 0 2001) boot).warnSat[0] = true ∧
    (after (.setDuty 0 2001) boot).log = boot.log ++ [.sat 0 .above 2000] := ⟨exec_after _ _, by decide +kernel⟩
theorem witness_SequencerTransitions :
    (loaded.seqState = .idle ∧ loaded.drvState = .configured ∧ validate loaded 3 = none) ∧
    validate (after (.wrStepHold 1 0) loaded) 3 ≠ none ∧
    ¬ (started.seqState = .idle ∧ started.drvState = .configured ∧ (3 : Set2) ≠ 0) ∧
    exec (.seqStart 3) loaded = .next started :=
  ⟨by decide +kernel, by decide +kernel, by decide +kernel, exec_after _ _⟩
theorem witness_DriverTransitions :
    exec (.configure 50 3) (clocked true 100000) = .next boot ∧ boot.drvState ≠ (clocked true 100000).drvState ∧
    exec (.configure 50 1) (clocked false 100000) = .next failed ∧ failed.drvState ≠ (clocked false 100000).drvState :=
  ⟨exec_after _ _, by decide +kernel, exec_after _ _, by decide +kernel⟩
theorem witness_ProgramIsLockedAfterStart :
    exec (.wrStepFrac 0 0) started = .next (after (.wrStepFrac 0 0) started) ∧ started.seqState ≠ .idle ∧
    dead.seqState ≠ .idle := ⟨exec_after _ _, by decide +kernel⟩
theorem witness_RunningSetOnlyByStart :
    (exec (.seqStart 3) loaded = .next started ∧ loaded.running[0] = false ∧ started.running[0] = true ∧
      loaded.drvState = .configured ∧ loaded.seqState = .idle ∧ validate loaded 3 = none) ∧
    (exec .reset started = .next (after .reset started) ∧ (after .reset started).running[0] = false) ∧
    ((after (.seqStart 1) loaded).seqState ≠ .idle ∧ (after (.seqStart 1) loaded).running[1] = false) :=
  ⟨⟨exec_after _ _, by decide +kernel⟩, ⟨exec_after _ _, by decide +kernel⟩, by decide +kernel⟩
theorem witness_PositionWrittenByStartAndAdvance :
    (exec (.seqStart 3) loaded = .next started ∧ started.idx[1] ≠ loaded.idx[1]) ∧
    (exec .msTick dueFirst = .next (after .msTick dueFirst) ∧ (after .msTick dueFirst).idx[0] ≠ dueFirst.idx[0]) ∧
    (exec .reset started = .next (after .reset started) ∧ (after .reset started).idx[1] ≠ started.idx[1]) :=
  ⟨⟨exec_after _ _, by decide +kernel⟩, ⟨exec_after _ _, by decide +kernel⟩, exec_after _ _, by decide +kernel⟩
theorem witness_DutyValueWriters :
    exec (.setDutyFrac 0 65536) boot = .next (after (.setDutyFrac 0 65536) boot) ∧
    (after (.setDutyFrac 0 65536) boot).dutyValue[0] ≠ boot.dutyValue[0] := ⟨exec_after _ _, by decide +kernel⟩
theorem witness_CounterWriters :
    exec .timTick wrapping = .next (after .timTick wrapping) ∧ (after .timTick wrapping).cnt ≠ wrapping.cnt ∧
    (after .timTick slow).pscCnt ≠ slow.pscCnt := ⟨exec_after _ _, by decide +kernel⟩
theorem witness_PwmOutputFormula :
    Invariants (after .timTick (after (.setDuty 0 2000) wrapping)) ∧
    (after .timTick (after (.setDuty 0 2000) wrapping)).drvState = .configured ∧
    (after .timTick (after (.setDuty 0 2000) wrapping)).enabled[0] = true ∧
    (after .timTick (after (.setDuty 0 2000) wrapping)).dutyActive[0] =
      (after .timTick (after (.setDuty 0 2000) wrapping)).maxDuty :=
  ⟨by apply invariants_of <;> decide +kernel, by decide +kernel⟩
theorem witness_EventStreamLayout : exec .msTick dueFirst = .next (after .msTick dueFirst) ∧ Instr.msTick ≠ .reset :=
  ⟨exec_after _ _, by decide⟩
theorem witness_StepKeepsInvariants :
    Invariants crowded ∧ step crowded = .next (nextOr crowded (step crowded)) ∧
    (started.seqState ≠ .idle ∧ started.ports.rst = false) :=
  ⟨by apply invariants_of <;> decide +kernel, rfl, by decide +kernel⟩
theorem witness_RunsFromResetHaveInvariants :
    exec .reset crowded = .next (after .reset crowded) ∧
    Sys2Proof.core.run 1 (after .reset crowded) = .next (nextOr crowded (step (after .reset crowded))) :=
  ⟨exec_after _ _, rfl⟩

end Sys2Proof.Tests
end

section
/-! What every event does to the flags and modes of 10_state.md: `drv_state` (R21), FAULT (R30), WARN (R32), the running
bits (R38), the outputs (R51) and RESET (R53). -/

namespace Sys2Proof.Machine

open Sys2Proof.Claims

/-! ## RESET (R53, R164) -/

section
variable (s : State)

@[simp] theorem resetAll_faultHwinit : (resetAll s).faultHwinit = false := rfl
@[simp] theorem resetAll_faultInvalidStep : (resetAll s).faultInvalidStep = false := rfl
@[simp] theorem resetAll_faultUsage : (resetAll s).faultUsage = false := rfl
@[simp] theorem resetAll_log : (resetAll s).log = [] := rfl
@[simp] theorem resetAll_warnSat : (resetAll s).warnSat = .replicate 2 false := rfl
@[simp] theorem resetAll_running : (resetAll s).running = .replicate 2 false := rfl

end

/-- Settles O42: each scalar element is the reset literal's, and each entry of an array is its replicated zero. -/
theorem resetZeroesEverything : Obligations.ResetZeroesEverything := by
  intro s
  refine ⟨resetAll s, rfl, rfl, rfl, rfl, rfl, rfl, rfl, rfl, rfl, rfl, rfl, rfl, rfl, rfl, rfl, rfl, rfl,
    fun n => ?channel, fun i => ?entry, fun k => ?cursor, rfl⟩
  case channel => simp [resetAll, State.reset, pwmOut]
  case entry => simp [resetAll, State.reset]
  case cursor => simp [resetAll, State.reset]

/-! ## The outputs (R51) -/

theorem pwmOut_eq_true (s : State) (n : Chan) :
    pwmOut s n = true ↔ s.drvState = .configured ∧ s.alloc.getLsbD n.val = true ∧ s.enabled[n.val] = true ∧
      s.cnt.toNat < s.dutyActive[n.val].toNat := by
  simp [pwmOut, inSet, and_assoc]

theorem fatal_eq_true (s : State) : fatal s = true ↔ s.faultHwinit = true ∨ s.faultInvalidStep = true := by
  simp [fatal]

/-- Settles O56: the end values are the formula at a duty that no count is below, and at one that every count of a
configured timer is below (R40 item 5). -/
theorem pwmOutputFormula : Obligations.PwmOutputFormula := by
  refine fun s n => ⟨pwmOut_eq_true s n, fun hzero => ?low, fun hinv hcfg hen hmax => ?high, fatal_eq_true s⟩
  case low =>
    rw [Bool.eq_false_iff, Ne, pwmOut_eq_true, hzero]
    simp
  case high =>
    have halloc := hinv.enabled_alloc n hen
    have hcnt := (hinv.counters hcfg).1
    exact (pwmOut_eq_true s n).2 ⟨hcfg, halloc, hen, hmax ▸ hcnt⟩

/-! ## What an event does to `drv_state` and to FAULT (R21, R30) -/

/-- R172: a HardwareInitError records no cursor and no step. -/
theorem raise_hardwareInit {e : FatalError} (h : e.isHardwareInit = true) (s : State) :
    raise e s = hwInitFailed e.code s := by
  cases e with
  | clkInvalid | freqUnsupported | dividerUnachievable => rfl
  | seqEmpty | seqRange | startRange | channelSet | fractionRange | holdZero => cases h

/-- R173: what an InvalidStepError records. -/
theorem raise_invalidStep {e : FatalError} (h : e.isHardwareInit = false) (s : State) :
    raise e s = stepInvalid e.code e.cursor (BitVec.ofNat 8 e.entry) s := by
  cases e with
  | clkInvalid | freqUnsupported | dividerUnachievable => cases h
  | seqEmpty | seqRange | startRange | channelSet | fractionRange | holdZero => rfl

/-- `drv_state` and the three flags of FAULT are as they were. -/
def KeepsFaults (s t : State) : Prop :=
  t.drvState = s.drvState ∧ t.faultHwinit = s.faultHwinit ∧ t.faultInvalidStep = s.faultInvalidStep ∧
    t.faultUsage = s.faultUsage

/-- What the instruction `i` can do from `s` to `drv_state` and FAULT: `exec_faultOutcome` says that this is all. -/
inductive FaultOutcome (i : Instr) (s : State) : State → Prop where
  | reset (hi : i = .reset) : FaultOutcome i s (resetAll s)
  | refused (hi : i ≠ .reset) : FaultOutcome i s (refused s)
  | configured (hz : BitVec 16) (req : Set2) (p m : Nat) (hi : i = .configure hz req)
      (hdrv : s.drvState = .unconfigured) : FaultOutcome i s (ack (configureTimer hz req p m s))
  | hwInitFailed (hz : BitVec 16) (req : Set2) (c : BitVec 4) (hi : i = .configure hz req)
      (hdrv : s.drvState = .unconfigured) : FaultOutcome i s (hwInitFailed c s)
  | stepInvalid (sel : Set2) (c : BitVec 4) (k : CurNum) (e : BitVec 8) (hi : i = .seqStart sel) :
      FaultOutcome i s (stepInvalid c k e s)
  | keeps (t : State) (hi : i ≠ .reset) (ht : KeepsFaults s t) : FaultOutcome i s t

theorem ne_reset_of_transaction {i : Instr} {x : Bool × Reg × Word} (h : i.transaction = some x) : i ≠ .reset := by
  rintro rfl
  cases h

theorem exec_faultOutcome {i : Instr} {s t : State} (h : exec i s = .next t) : FaultOutcome i s t := by
  rcases exec_cases h with ⟨w, r, hi, rfl⟩ | ⟨r, d, hi, rfl⟩ | ⟨hz, req, e, rfl, he, hdrv, -, -, rfl⟩ |
    ⟨hz, req, p, m, rfl, hdrv, -, -, -, -, rfl⟩ | ⟨sel, e, rfl, -, -, -, -, he, rfl⟩ | ⟨sel, rfl, -, -, -, -, rfl⟩ |
    ⟨n, b, hi, -, -, rfl⟩ | ⟨n, v, hi, -, -, rfl⟩ | ⟨k, base, len, start, chm, rfl, -, rfl⟩ | ⟨e, w, rfl, -, rfl⟩ |
    ⟨e, w, rfl, -, rfl⟩ | ⟨rfl, rfl⟩ | ⟨rfl, rfl⟩ | ⟨rfl, rfl⟩
  · exact .keeps _ (ne_reset_of_transaction hi) (by simp [KeepsFaults])
  · exact .refused (ne_reset_of_transaction hi)
  · exact raise_hardwareInit he s ▸ .hwInitFailed hz req e.code rfl hdrv
  · exact .configured hz req p m rfl hdrv
  · exact raise_invalidStep he s ▸ .stepInvalid sel _ _ _ rfl
  · exact .keeps _ (by simp) (by simp [KeepsFaults])
  · exact .keeps _ (by rintro rfl; simp at hi) (by simp [KeepsFaults])
  · exact .keeps _ (by rintro rfl; simp at hi) (by simp [KeepsFaults])
  · exact .keeps _ (by simp) (by simp [KeepsFaults])
  · exact .keeps _ (by simp) (by simp [KeepsFaults])
  · exact .keeps _ (by simp) (by simp [KeepsFaults])
  · exact .keeps _ (by simp) (by simp [KeepsFaults])
  · exact .keeps _ (by simp) (by simp [KeepsFaults])
  · exact .reset rfl

/-- Settles O50: of all that an instruction can do to `drv_state`, only CONFIGURE's two outcomes past its precondition,
and RESET, change it. -/
theorem driverTransitions : Obligations.DriverTransitions := by
  intro i s t h
  cases exec_faultOutcome h with
  | reset hi => exact ⟨fun _ => rfl, fun hne => absurd hi hne⟩
  | refused hi => exact ⟨fun hr => absurd hr hi, fun _ hne => absurd rfl hne⟩
  | configured hz req p m hi hdrv =>
    exact ⟨by simp [hi], fun _ _ => ⟨hz, req, hi, hdrv, .inl ⟨rfl, rfl⟩⟩⟩
  | hwInitFailed hz req c hi hdrv =>
    exact ⟨by simp [hi], fun _ _ => ⟨hz, req, hi, hdrv, .inr ⟨c, rfl⟩⟩⟩
  | stepInvalid sel c k e hi => exact ⟨by simp [hi], fun _ hne => absurd rfl hne⟩
  | keeps _ hi ht => exact ⟨fun hr => absurd hr hi, fun _ hne => absurd ht.1 hne⟩

/-! ## Nothing but RD_FAULT depends on `FAULT.usage` (R30) -/

/-- The state with `FAULT.usage` set to `b`. -/
def State.withUsage (s : State) (b : Bool) : State := { s with faultUsage := b }

/-- The effect `f` neither reads nor writes `FAULT.usage`. -/
def IgnoresUsage (f : State → State) : Prop := ∀ s b, f (s.withUsage b) = (f s).withUsage b

/-- What the effect `f` leaves does not depend on `FAULT.usage`, but that flag itself may. -/
def BlindToUsage (f : State → State) : Prop := ∀ s b, ∃ c, f (s.withUsage b) = (f s).withUsage c

theorem IgnoresUsage.blind {f : State → State} (hf : IgnoresUsage f) : BlindToUsage f := fun s b => ⟨b, hf s b⟩

theorem IgnoresUsage.comp {f g : State → State} (hf : IgnoresUsage f) (hg : IgnoresUsage g) :
    IgnoresUsage (fun s => f (g s)) := by
  intro s b
  simp only [hg s b, hf (g s) b]

theorem IgnoresUsage.ite {f g : State → State} (p : State → Prop) [DecidablePred p]
    (hp : ∀ s b, p (s.withUsage b) ↔ p s) (hf : IgnoresUsage f) (hg : IgnoresUsage g) :
    IgnoresUsage (fun s => if p s then f s else g s) := by
  intro s b
  by_cases h : p s
  · simp only [hp, h, if_true, hf s b]
  · simp only [hp, h, if_false, hg s b]

theorem BlindToUsage.ite {f g : State → State} (p : State → Prop) [DecidablePred p]
    (hp : ∀ s b, p (s.withUsage b) ↔ p s) (hf : BlindToUsage f) (hg : BlindToUsage g) :
    BlindToUsage (fun s => if p s then f s else g s) := by
  intro s b
  by_cases h : p s
  · simpa only [hp, h, if_true] using hf s b
  · simpa only [hp, h, if_false] using hg s b

theorem id_ignoresUsage : IgnoresUsage (fun s => s) := fun _ _ => rfl

theorem ack_ignoresUsage : IgnoresUsage ack := fun _ _ => rfl

theorem reloadHold_ignoresUsage (k : CurNum) : IgnoresUsage (reloadHold k) := fun _ _ => rfl

theorem decHold_ignoresUsage (k : CurNum) : IgnoresUsage (decHold k) := fun _ _ => rfl

theorem raise_ignoresUsage (e : FatalError) : IgnoresUsage (raise e) := by
  intro s b
  cases h : e.isHardwareInit <;> simp [raise, endPart, respondErr, State.withUsage, h]

theorem refuse_blindToUsage : BlindToUsage refuse := fun _ _ => ⟨true, rfl⟩

theorem resetAll_blindToUsage : BlindToUsage resetAll := fun _ _ => ⟨false, rfl⟩

/-- A read whose word is not made from `FAULT.usage`. -/
theorem respond_blindToUsage {w : State → Word} (hw : ∀ s b, w (s.withUsage b) = w s) :
    BlindToUsage (fun s => respond (w s) s) := by
  intro s b
  exact ⟨b, congrArg (respond · (s.withUsage b)) (hw s b)⟩

/-- A channel operation, whose effect may be computed from the state as SET_DUTY_FRAC's is. -/
theorem onChannel_blindToUsage (n : Chan) {f : State → State → State} (hf : IgnoresUsage (fun s => f s s)) :
    BlindToUsage (fun s => onChannel n (f s) s) :=
  .ite (fun s => channelOpen s n = true) (fun _ _ => .rfl) (ack_ignoresUsage.comp hf).blind refuse_blindToUsage

theorem whileIdle_blindToUsage {f : State → State} (hf : IgnoresUsage f) : BlindToUsage (whileIdle f) :=
  .ite (fun s => s.seqState = .idle) (fun _ _ => .rfl) (ack_ignoresUsage.comp hf).blind refuse_blindToUsage

theorem drvSetDuty_ignoresUsage (n : Chan) (v : Int) : IgnoresUsage (drvSetDuty n v) := by
  intro s b
  rcases drvSetDuty_cases n v s with ⟨hd, h⟩ | ⟨d, hd, h⟩ <;> rw [h] <;>
    simp [drvSetDuty, State.withUsage, hd, warnDutySaturation, emit, setDutyValue]

theorem applyChannel_ignoresUsage (k : CurNum) (f : Word) (v : Nat) (n : Chan) : IgnoresUsage (applyChannel k f v n) :=
  have hemit : IgnoresUsage (fun t => emit (.step k n t.idx[k.val] f t.dutyValue[n.val]) t) := fun _ _ => rfl
  .ite (fun s => inSet s.curChm[k.val] n = true) (fun _ _ => .rfl) (hemit.comp (drvSetDuty_ignoresUsage n v))
    id_ignoresUsage

theorem applyStep_ignoresUsage (k : CurNum) : IgnoresUsage (applyStep k) := by
  intro s b
  have hfrac : currentFrac (s.withUsage b) k = currentFrac s k := rfl
  have hduty : currentDuty (s.withUsage b) k = currentDuty s k := rfl
  unfold applyStep
  rw [hfrac, hduty, applyChannel_ignoresUsage, applyChannel_ignoresUsage]

theorem startCursor_ignoresUsage (sel : Set2) (k : CurNum) : IgnoresUsage (startCursor sel k) :=
  have hwrite : IgnoresUsage
      (fun s => { s with idx := s.idx.set k s.curStart[k.val], running := s.running.set k true }) := fun _ _ => rfl
  .ite (fun _ => inSet sel k = true) (fun _ _ => .rfl)
    ((reloadHold_ignoresUsage k).comp ((applyStep_ignoresUsage k).comp hwrite)) id_ignoresUsage

theorem startSequencer_ignoresUsage (sel : Set2) : IgnoresUsage (startSequencer sel) :=
  have hlatch : IgnoresUsage (fun s => { s with seqMaxDuty := s.maxDuty, seqState := .running }) := fun _ _ => rfl
  (startCursor_ignoresUsage sel 1).comp ((startCursor_ignoresUsage sel 0).comp hlatch)

theorem advance_ignoresUsage (k : CurNum) : IgnoresUsage (advance k) :=
  have hmove : IgnoresUsage (fun s => { s with idx := s.idx.set k (nextOffset s k) }) := fun _ _ => rfl
  (reloadHold_ignoresUsage k).comp ((applyStep_ignoresUsage k).comp hmove)

theorem cursorTick_ignoresUsage (k : CurNum) : IgnoresUsage (cursorTick k) :=
  .ite (fun s => s.running[k.val] = true) (fun _ _ => .rfl)
    (.ite (fun s => (decHold k s).holdRem[k.val] = 0) (fun _ _ => .rfl)
      ((advance_ignoresUsage k).comp (decHold_ignoresUsage k)) (decHold_ignoresUsage k))
    id_ignoresUsage

theorem msTick_ignoresUsage : IgnoresUsage msTick :=
  .ite (fun s => s.seqState = .running) (fun _ _ => .rfl)
    ((cursorTick_ignoresUsage 1).comp (cursorTick_ignoresUsage 0)) id_ignoresUsage

theorem counterStep_ignoresUsage : IgnoresUsage counterStep :=
  .ite (fun s => s.cnt.toNat + 1 < s.maxDuty.toNat) (fun _ _ => .rfl) (fun _ _ => rfl) (fun _ _ => rfl)

theorem timTick_ignoresUsage : IgnoresUsage timTick :=
  have hclear : IgnoresUsage (fun s => { s with pscCnt := 0 }) := fun _ _ => rfl
  .ite (fun s => s.drvState = .configured) (fun _ _ => .rfl)
    (.ite (fun s => s.pscCnt.toNat + 1 < s.pscDiv.toNat) (fun _ _ => .rfl) (fun _ _ => rfl)
      (counterStep_ignoresUsage.comp hclear))
    id_ignoresUsage

theorem tryConfigure_ignoresUsage (hz : BitVec 16) (req : Set2) : IgnoresUsage (tryConfigure hz req) := by
  have past_clock_checks {f : State → State} (hf : IgnoresUsage f) : IgnoresUsage (fun s =>
      if s.ports.clkValid = false then raise .clkInvalid s
      else if hz.toNat ≠ Config.carrierHz then raise .freqUnsupported s else f s) :=
    .ite (fun s => s.ports.clkValid = false) (fun _ _ => .rfl) (raise_ignoresUsage _)
      (.ite (fun _ => hz.toNat ≠ Config.carrierHz) (fun _ _ => .rfl) (raise_ignoresUsage _) hf)
  intro s b
  have hdiv : deriveDividers (s.withUsage b).dividers (s.withUsage b).ports.timclkHz hz =
    deriveDividers s.dividers s.ports.timclkHz hz := rfl
  unfold tryConfigure
  rw [hdiv]
  cases deriveDividers s.dividers s.ports.timclkHz hz with
  | none => exact past_clock_checks (raise_ignoresUsage .dividerUnachievable) s b
  | some pm =>
    exact past_clock_checks (f := fun s => ack (configureTimer hz req pm.1 pm.2 s)) (fun _ _ => rfl) s b

theorem validateCursor_withUsage (s : State) (b : Bool) (k : CurNum) :
    validateCursor (s.withUsage b) k = validateCursor s k := rfl

theorem validate_withUsage (s : State) (b : Bool) (sel : Set2) : validate (s.withUsage b) sel = validate s sel := by
  simp only [validate, validateSelected, validateCursor_withUsage]

theorem tryStart_ignoresUsage (sel : Set2) : IgnoresUsage (tryStart sel) := by
  intro s b
  unfold tryStart
  rw [validate_withUsage]
  cases validate s sel with
  | none => exact (ack_ignoresUsage.comp (startSequencer_ignoresUsage sel)) s b
  | some e => exact raise_ignoresUsage e s b

/-- R30: every instruction but RD_FAULT is an effect that is blind to `FAULT.usage`. -/
theorem exec_blindToUsage {i : Instr} (hi : i ≠ .rdFault) : ∃ f, (∀ s, exec i s = .next (f s)) ∧ BlindToUsage f := by
  cases i with
  | configure hz req =>
    exact ⟨_, fun _ => rfl, .ite (fun s => s.drvState = .unconfigured ∧ hz ≠ 0 ∧ req ≠ 0) (fun _ _ => .rfl)
      (tryConfigure_ignoresUsage hz req).blind refuse_blindToUsage⟩
  | seqStart sel =>
    exact ⟨_, fun _ => rfl, .ite (fun s => s.drvState = .configured ∧ s.seqState = .idle ∧ sel ≠ 0) (fun _ _ => .rfl)
      (tryStart_ignoresUsage sel).blind refuse_blindToUsage⟩
  | enable n | disable n => exact ⟨_, fun _ => rfl, onChannel_blindToUsage n fun _ _ => rfl⟩
  | setDuty n _ | setDutyFrac n _ =>
    exact ⟨_, fun _ => rfl, onChannel_blindToUsage n fun s b => drvSetDuty_ignoresUsage n _ s b⟩
  | wrCursor k base len start chm | wrStepFrac e w | wrStepHold e w =>
    exact ⟨_, fun _ => rfl, whileIdle_blindToUsage fun _ _ => rfl⟩
  | timTick => exact ⟨_, fun _ => rfl, timTick_ignoresUsage.blind⟩
  | msTick => exact ⟨_, fun _ => rfl, msTick_ignoresUsage.blind⟩
  | reset => exact ⟨_, fun _ => rfl, resetAll_blindToUsage⟩
  | rdFault => exact absurd rfl hi
  | rdConfig | resolution | rdStatus | rdFaultInfo | rdWarn | rdPscDiv | rdSeqStart | rdEn n | rdDuty n
  | rdCursor k | rdPos k | rdHold k | rdStepFrac e | rdStepHold e =>
    exact ⟨_, fun _ => rfl, respond_blindToUsage fun _ _ => rfl⟩

/-- A flag that is as it was is not newly set. -/
theorem not_newly_set {a b : Bool} {P : Prop} (h : b = a) : a = false → b = true → P := by
  rintro rfl hb
  simp [h] at hb

/-- Settles O46: the clauses about single flags are read off what an instruction can do to FAULT, and the last off the
blindness of its effect. -/
theorem faultFlagsAreSticky : Obligations.FaultFlagsAreSticky := by
  intro i s t h
  have hblind (b : Bool) (hi : i ≠ .rdFault) :
      ∃ u, exec i { s with faultUsage := b } = .next u ∧ { u with faultUsage := t.faultUsage } = t := by
    obtain ⟨f, hf, hb⟩ := exec_blindToUsage hi
    obtain ⟨c, hc⟩ := hb s b
    obtain rfl : f s = t := by simpa [hf] using h
    exact ⟨(f s).withUsage c, (hf _).trans (congrArg _ hc), rfl⟩
  cases exec_faultOutcome h with
  | reset hi =>
    exact ⟨fun hne => absurd hi hne, by simp, by simp, by simp, fun _ => ⟨rfl, rfl, rfl⟩, hblind⟩
  | refused hi =>
    exact ⟨fun _ => ⟨id, id, fun _ => rfl⟩, not_newly_set rfl, not_newly_set rfl, fun _ _ => rfl,
      fun hr => absurd hr hi, hblind⟩
  | configured hz req p m hi _ =>
    exact ⟨fun _ => ⟨id, id, id⟩, not_newly_set rfl, not_newly_set rfl, not_newly_set rfl, by simp [hi], hblind⟩
  | hwInitFailed hz req c hi _ =>
    exact ⟨fun _ => ⟨fun _ => rfl, id, id⟩, fun _ _ => ⟨hz, req, c, hi, rfl⟩, not_newly_set rfl, not_newly_set rfl,
      by simp [hi], hblind⟩
  | stepInvalid sel c k e hi =>
    exact ⟨fun _ => ⟨id, fun _ => rfl, id⟩, not_newly_set rfl, fun _ _ => ⟨sel, c, k, e, hi, rfl⟩, not_newly_set rfl,
      by simp [hi], hblind⟩
  | keeps _ hi ht =>
    obtain ⟨-, hhw, his, hus⟩ := ht
    exact ⟨fun _ => ⟨hhw.trans, his.trans, hus.trans⟩, not_newly_set hhw, not_newly_set his, not_newly_set hus,
      fun hr => absurd hr hi, hblind⟩

/-! ## The saturation flags and the event stream (R32) -/

/-- From `s` to `t` the event stream only grows, and `WARN.sat[n]` becomes set exactly with a SAT record of channel n. -/
def SatFollowsLog (s t : State) : Prop :=
  ∃ l, t.log = s.log ++ l ∧
    ∀ n : Chan, t.warnSat[n.val] = true ↔ s.warnSat[n.val] = true ∨ ∃ d v, LogRec.sat n d v ∈ l

theorem SatFollowsLog.of_eq {s t : State} (hlog : t.log = s.log) (hsat : t.warnSat = s.warnSat) : SatFollowsLog s t :=
  ⟨[], by simp [hlog], by simp [hsat]⟩

theorem SatFollowsLog.trans {s t u : State} (hst : SatFollowsLog s t) (htu : SatFollowsLog t u) :
    SatFollowsLog s u := by
  obtain ⟨l, hl, hs⟩ := hst
  obtain ⟨m, hm, ht⟩ := htu
  refine ⟨l ++ m, by simp [hl, hm], fun n => ?_⟩
  simp only [ht, hs, List.mem_append, exists_or, or_assoc]

theorem satFollowsLog_drvSetDuty (n : Chan) (v : Int) (s : State) : SatFollowsLog s (drvSetDuty n v s) := by
  rcases drvSetDuty_cases n v s with ⟨-, h⟩ | ⟨d, -, h⟩ <;> rw [h]
  · exact .of_eq rfl rfl
  · refine ⟨[.sat n d (dutyOf v s.maxDuty)], rfl, fun m => ?_⟩
    by_cases hm : m = n
    · simp [hm]
    · simp [hm, Vector.getElem_set_ne, Fin.val_ne_of_ne (Ne.symm hm)]

theorem satFollowsLog_applyChannel (k : CurNum) (f : Word) (v : Nat) (n : Chan) (s : State) :
    SatFollowsLog s (applyChannel k f v n s) := by
  have hstep (j w) (t : State) : SatFollowsLog t (emit (.step k n j f w) t) := ⟨_, rfl, by simp⟩
  rcases applyChannel_cases k f v n s with ⟨-, h⟩ | ⟨-, h⟩ <;> rw [h]
  · exact .of_eq rfl rfl
  · exact (satFollowsLog_drvSetDuty n v s).trans (hstep _ _ _)

theorem satFollowsLog_applyStep (k : CurNum) (s : State) : SatFollowsLog s (applyStep k s) :=
  (satFollowsLog_applyChannel _ _ _ _ _).trans (satFollowsLog_applyChannel _ _ _ _ _)

/-- An apply between two writes of the cursor's position and hold. -/
theorem satFollowsLog_reload_apply (k : CurNum) {s t : State} (hlog : t.log = s.log) (hsat : t.warnSat = s.warnSat) :
    SatFollowsLog s (reloadHold k (applyStep k t)) :=
  (SatFollowsLog.of_eq hlog hsat).trans ((satFollowsLog_applyStep k t).trans (.of_eq rfl rfl))

theorem satFollowsLog_startCursor (sel : Set2) (k : CurNum) (s : State) : SatFollowsLog s (startCursor sel k s) := by
  rcases startCursor_cases sel k s with ⟨-, h⟩ | ⟨-, h⟩ <;> rw [h]
  · exact .of_eq rfl rfl
  · exact satFollowsLog_reload_apply k rfl rfl

theorem satFollowsLog_startSequencer (sel : Set2) (s : State) : SatFollowsLog s (startSequencer sel s) :=
  have hlatch : SatFollowsLog s { s with seqMaxDuty := s.maxDuty, seqState := .running } := .of_eq rfl rfl
  (hlatch.trans (satFollowsLog_startCursor sel 0 _)).trans (satFollowsLog_startCursor sel 1 _)

theorem satFollowsLog_cursorTick (k : CurNum) (s : State) : SatFollowsLog s (cursorTick k s) := by
  rcases cursorTick_cases k s with ⟨-, h⟩ | ⟨-, -, h⟩ | ⟨-, -, h⟩ <;> rw [h]
  · exact .of_eq rfl rfl
  · exact .of_eq rfl rfl
  · exact satFollowsLog_reload_apply k rfl rfl

theorem satFollowsLog_msTick (s : State) : SatFollowsLog s (msTick s) := by
  unfold msTick
  split
  · exact (satFollowsLog_cursorTick _ _).trans (satFollowsLog_cursorTick _ _)
  · exact .of_eq rfl rfl

/-- R32: in every event but RESET the saturation flags follow the event stream. -/
theorem satFollowsLog_exec {i : Instr} {s t : State} (h : exec i s = .next t) (hi : i ≠ .reset) :
    SatFollowsLog s t := by
  rcases exec_cases h with ⟨w, r, -, rfl⟩ | ⟨r, d, -, rfl⟩ | ⟨hz, req, e, -, -, -, -, -, rfl⟩ |
    ⟨hz, req, p, m, -, -, -, -, -, -, rfl⟩ | ⟨sel, e, -, -, -, -, -, -, rfl⟩ | ⟨sel, -, -, -, -, -, rfl⟩ |
    ⟨n, b, -, -, -, rfl⟩ | ⟨n, v, -, -, -, rfl⟩ | ⟨k, base, len, start, chm, -, -, rfl⟩ | ⟨e, w, -, -, rfl⟩ |
    ⟨e, w, -, -, rfl⟩ | ⟨-, rfl⟩ | ⟨-, rfl⟩ | ⟨hr, -⟩
  · exact .of_eq rfl rfl
  · exact .of_eq rfl rfl
  · exact .of_eq (by simp) (by simp)
  · exact .of_eq rfl rfl
  · exact .of_eq (by simp) (by simp)
  · exact (satFollowsLog_startSequencer sel s).trans (.of_eq rfl rfl)
  · exact .of_eq rfl rfl
  · exact (satFollowsLog_drvSetDuty n v s).trans (.of_eq rfl rfl)
  · exact .of_eq rfl rfl
  · exact .of_eq rfl rfl
  · exact .of_eq rfl rfl
  · exact .of_eq (by simp) (by simp)
  · exact satFollowsLog_msTick s
  · exact absurd hr hi

/-- Settles O48: outside RESET the flag and the records appended go together; RESET appends nothing and clears it. -/
theorem saturationFlagIsSticky : Obligations.SaturationFlagIsSticky := by
  intro i s t n h
  by_cases hi : i = .reset
  · subst hi
    obtain rfl : resetAll s = t := by simpa [exec, execReset] using h
    refine ⟨fun hne => absurd rfl hne, by simp, fun l d v hl hmem => ?_, by simp⟩
    obtain ⟨-, rfl⟩ := List.append_eq_nil_iff.1 hl.symm
    simp at hmem
  · obtain ⟨l, hl, hsat⟩ := satFollowsLog_exec h hi
    refine ⟨fun _ hs => (hsat n).2 (.inl hs), fun hs ht => ?newly, fun l' d v hl' hmem => ?appended,
      fun hr => absurd hr hi⟩
    case newly =>
      obtain ⟨d, v, hmem⟩ := ((hsat n).1 ht).resolve_left (by simp [hs])
      exact ⟨l, d, v, hl, hmem⟩
    case appended =>
      obtain rfl : l = l' := List.append_cancel_left (hl.symm.trans hl')
      exact (hsat n).2 (.inr ⟨d, v, hmem⟩)

/-! ## The running bits (R38) -/

theorem startCursor_running (sel : Set2) (k j : CurNum) (s : State) :
    (startCursor sel k s).running[j.val] = (s.running[j.val] || (inSet sel k && decide (j = k))) := by
  rcases startCursor_cases sel k s with ⟨hk, h⟩ | ⟨hk, h⟩ <;> rw [h]
  · simp [hk]
  · by_cases hj : j = k
    · simp [hj, hk]
    · simp [hj, Vector.getElem_set_ne, Fin.val_ne_of_ne (Ne.symm hj)]

/-- R135: the start sets the running bits of the selected cursors and leaves the others. -/
theorem startSequencer_running (sel : Set2) (k : CurNum) (s : State) :
    (startSequencer sel s).running[k.val] = (s.running[k.val] || inSet sel k) := by
  unfold startSequencer
  simp only [startCursor_running]
  fin_cases k <;> simp

/-- R38: everything an instruction can do to the running bits. -/
theorem exec_running_cases {i : Instr} {s t : State} (h : exec i s = .next t) :
    t.running = s.running ∨
    (∃ sel, i = .seqStart sel ∧ s.seqState = .idle ∧ validate s sel = none ∧ t = ack (startSequencer sel s)) ∨
    (i = .reset ∧ t = resetAll s) := by
  rcases exec_cases h with ⟨w, r, -, rfl⟩ | ⟨r, d, -, rfl⟩ | ⟨hz, req, e, -, -, -, -, -, rfl⟩ |
    ⟨hz, req, p, m, -, -, -, -, -, -, rfl⟩ | ⟨sel, e, -, -, -, -, -, -, rfl⟩ | ⟨sel, hi, -, hidle, -, hval, ht⟩ |
    ⟨n, b, -, -, -, rfl⟩ | ⟨n, v, -, -, -, rfl⟩ | ⟨k, base, len, start, chm, -, -, rfl⟩ | ⟨e, w, -, -, rfl⟩ |
    ⟨e, w, -, -, rfl⟩ | ⟨-, rfl⟩ | ⟨-, rfl⟩ | hr
  · exact .inl rfl
  · exact .inl rfl
  · exact .inl (raise_running s e)
  · exact .inl rfl
  · exact .inl (raise_running s e)
  · exact .inr (.inl ⟨sel, hi, hidle, hval, ht⟩)
  · exact .inl rfl
  · exact .inl (drvSetDuty_running s n v)
  · exact .inl rfl
  · exact .inl rfl
  · exact .inl rfl
  · exact .inl (timTick_running s)
  · exact .inl (msTick_running s)
  · exact .inr (.inr hr)

/-- R135: a SEQ_START under its precondition whose cursors validate starts them. -/
theorem exec_seqStart_valid {sel : Set2} {s : State} (hdrv : s.drvState = .configured) (hidle : s.seqState = .idle)
    (hsel : sel ≠ 0) (hval : validate s sel = none) :
    exec (.seqStart sel) s = .next (ack (startSequencer sel s)) := by
  simp only [exec, execSeqStart, hdrv, hidle, hsel, ne_eq, not_false_iff, and_self, if_true, tryStart, hval]

/-- Settles O52: the running bits are kept by all but SEQ_START's success, which adds the selected cursors, and RESET. -/
theorem runningSetOnlyByStart : Obligations.RunningSetOnlyByStart := by
  intro i s t k h
  have hstarts (sel : Set2) (hi : i = .seqStart sel) (hk : sel.getLsbD k.val = true) (hdrv : s.drvState = .configured)
      (hidle : s.seqState = .idle) (hval : validate s sel = none) : t.running[k.val] = true := by
    have hsel : sel ≠ 0 := by rintro rfl; simp at hk
    obtain rfl : ack (startSequencer sel s) = t := by simpa [hi, exec_seqStart_valid hdrv hidle hsel hval] using h
    simp [startSequencer_running, inSet, hk]
  have hreset (hi : i = .reset) : t.running[k.val] = false := by
    obtain rfl : resetAll s = t := by simpa [hi, exec, execReset] using h
    simp
  have hinv (hs : Invariants s) (hk : s.running[k.val] = true) : s.seqState = .running := (hs.cursors k hk).seq_running
  rcases exec_running_cases h with hrun | ⟨sel, hi, hidle, hval, rfl⟩ | ⟨hi, -⟩
  · have hk : t.running[k.val] = s.running[k.val] := by rw [hrun]
    exact ⟨fun hs ht => by simp [hk, hs] at ht, not_newly_set hk, fun _ => hk.trans, hstarts, hreset, hinv⟩
  · have hbit : (ack (startSequencer sel s)).running[k.val] = (s.running[k.val] || sel.getLsbD k.val) :=
      startSequencer_running sel k s
    rw [hbit] at hstarts hreset ⊢
    exact ⟨fun hs ht => by simp [hs] at ht, fun hs ht => ⟨sel, hi, by simpa [hs] using ht, hval, by simp⟩,
      fun hne => absurd hidle hne, hstarts, hreset, hinv⟩
  · exact ⟨fun _ _ => hi, by simp [hreset hi], fun _ _ => hreset hi, hstarts, hreset, hinv⟩

end Sys2Proof.Machine
end

section
/-! The register space as memory: a host read returns the word at its offset and changes nothing else (R67), and the step
table and the cursor configuration are locked from SEQ_START until RESET (R73). -/

namespace Sys2Proof.Machine

open Sys2Proof.Claims

/-! ## Host reads (R66, R67) -/

/-- R81, R66: the read column and the words that reads return agree on every register: an operation that answers the
register's word, or neither an operation nor a word. -/
theorem readOp_cases (r : Reg) (s : State) :
    (∃ i w, readOp r = .ok i ∧ regWord s r = some w ∧ exec i s = .next (respond w s)) ∨
    (∃ e, readOp r = .error e ∧ regWord s r = none) := by
  cases r with
  | chDutyFrac n => exact .inr ⟨_, rfl, rfl⟩
  | config | maxDuty | status | fault | faultInfo | warn | pscDiv | seqStart | chEn n | chDuty n
  | curSeq k | curPos k | curHold k | stepFrac i | stepHold i => exact .inl ⟨_, _, rfl, rfl, rfl⟩

/-- R60, R87: everything a host read can do: respond with the word at its offset, or refuse where there is none. -/
theorem hostRead_cases (a : Offset) (s : State) :
    (∃ w, memWord s a = some w ∧ hostRead a s = .next (respond w s)) ∨
    (memWord s a = none ∧ hostRead a s = .next (refuse s)) := by
  cases hreg : regAt a with
  | error e => exact .inr ⟨by simp [memWord, hreg], by simp [hostRead, busEvent, decodeFields, hreg]⟩
  | ok r =>
    rcases readOp_cases r s with ⟨i, w, hop, hword, hexec⟩ | ⟨e, hop, hword⟩
    · exact .inl ⟨w, by simp [memWord, hreg, hword], by simp [hostRead, busEvent, decodeFields, hreg, hop, hexec]⟩
    · exact .inr ⟨by simp [memWord, hreg, hword], by simp [hostRead, busEvent, decodeFields, hreg, hop]⟩

theorem hostRead_of_word {a : Offset} {s : State} {w : Word} (h : memWord s a = some w) :
    hostRead a s = .next (respond w s) := by
  rcases hostRead_cases a s with ⟨v, hv, hread⟩ | ⟨hnone, -⟩
  · obtain rfl : v = w := by simpa [hv] using h
    exact hread
  · simp [hnone] at h

theorem hostRead_of_no_word {a : Offset} {s : State} (h : memWord s a = none) : hostRead a s = .next (refuse s) := by
  rcases hostRead_cases a s with ⟨w, hw, -⟩ | ⟨-, hread⟩
  · simp [hw] at h
  · exact hread

/-- R67: no register shows the response. -/
@[simp] theorem regWord_respond (v : Word) (s : State) (r : Reg) : regWord (respond v s) r = regWord s r := by
  cases r <;> rfl

@[simp] theorem memWord_respond (v : Word) (s : State) (a : Offset) : memWord (respond v s) a = memWord s a := by
  cases hreg : regAt a <;> simp [memWord, hreg]

/-- Settles O15: the second read finds the word of the first, because no register shows the response. -/
theorem hostReadsHaveNoSideEffect : Obligations.HostReadsHaveNoSideEffect := by
  refine fun a s => ⟨fun w hw => ⟨hostRead_of_word hw, ?again⟩, hostRead_of_no_word⟩
  case again => exact hostRead_of_word ((memWord_respond w s a).trans hw)

/-! ## The lock of the program (R73) -/

/-- R73: outside Idle no instruction but RESET writes the step table or the cursor configuration: the three that could
are refused there, and SEQ_START's outcomes past its precondition need Idle. -/
theorem exec_sameProgram {i : Instr} {s t : State} (h : exec i s = .next t) (hlocked : s.seqState ≠ .idle)
    (hi : i ≠ .reset) : SameProgram s t := by
  rcases exec_cases h with ⟨w, r, -, rfl⟩ | ⟨r, d, -, rfl⟩ | ⟨hz, req, e, -, -, -, -, -, rfl⟩ |
    ⟨hz, req, p, m, -, -, -, -, -, -, rfl⟩ | ⟨sel, e, -, -, hidle, -⟩ | ⟨sel, -, -, hidle, -⟩ |
    ⟨n, b, -, -, -, rfl⟩ | ⟨n, v, -, -, -, rfl⟩ | ⟨k, base, len, start, chm, -, hidle, -⟩ | ⟨e, w, -, hidle, -⟩ |
    ⟨e, w, -, hidle, -⟩ | ⟨-, rfl⟩ | ⟨-, rfl⟩ | ⟨hr, -⟩
  · simp [SameProgram]
  · simp [SameProgram]
  · simp [SameProgram]
  · simp [SameProgram]
  · exact absurd hidle hlocked
  · exact absurd hidle hlocked
  · simp [SameProgram]
  · simp [SameProgram]
  · exact absurd hidle hlocked
  · exact absurd hidle hlocked
  · exact absurd hidle hlocked
  · simp [SameProgram]
  · simp [SameProgram]
  · exact absurd hr hi

/-- Settles O51: every fetch reads the step table, which is kept. -/
theorem programIsLockedAfterStart : Obligations.ProgramIsLockedAfterStart := by
  intro i s t h hlocked hi
  have hsame := exec_sameProgram h hlocked hi
  have ⟨hfrac, hhold, _⟩ := hsame
  exact ⟨hsame, fun j => ⟨tableFrac_congr hfrac j, tableHold_congr hhold j⟩⟩

end Sys2Proof.Machine
end

section
/-! The encoding of 30_encoding.md: the rows of the operation table (R86), the illegal transactions (R88) and the
reserved bits (R89). -/

namespace Sys2Proof

/-! ## The header of a transaction word: the bits that the operation table looks at -/

/-- `we`, `addr` and `wdata[0]`: the bits of T that select the operation (R80). -/
def headerMask : BusWord := busWord true 0xFF 1

theorem busWord_and (we we' : Bool) (a a' : Offset) (d d' : Word) :
    busWord we a d &&& busWord we' a' d' = busWord (we && we') (a &&& a') (d &&& d') := by
  apply BitVec.eq_of_getLsbD_eq
  intro i hi
  simp only [BitVec.getLsbD_and, getLsbD_busWord]
  split_ifs with hdata haddr
  · rfl
  · rfl
  · cases decide (i = 40) <;> simp

/-- The header, as the word that has `wdata[0]` for its data. -/
theorem and_headerMask (t : BusWord) :
    t &&& headerMask = busWord (busWe t) (busAddr t) (BitVec.setWidth 32 (BitVec.ofBool (t.getLsbD 0))) := by
  have hbit : (busData t).getLsbD 0 = t.getLsbD 0 := by simp [busData]
  have haddr : busAddr t &&& 0xFF = busAddr t := BitVec.and_allOnes
  calc t &&& headerMask
      = busWord (busWe t) (busAddr t) (busData t) &&& headerMask := by rw [busWord_fields]
    _ = busWord (busWe t) (busAddr t) (busData t &&& 1) := by rw [headerMask, busWord_and, haddr, Bool.and_true]
    _ = _ := by rw [← hbit]; exact congrArg _ BitVec.and_one_eq_setWidth_ofBool_getLsbD

/-- R86: every row's mask lies within the header. -/
theorem mask_within_header : ∀ r ∈ opRows, headerMask &&& r.mask = r.mask := by decide

theorem selects_header {r : OpRow} (hr : r ∈ opRows) (t : BusWord) : r.selects (t &&& headerMask) = r.selects t := by
  simp only [OpRow.selects, BitVec.and_assoc, mask_within_header r hr]

/-- The mnemonic of the operation that a word decodes to. -/
def decodedMnemonic (t : BusWord) : Option String := (decode t).toOption.map Instr.mnemonic

/-- R80: of the data word, only `wdata[0]` of a CHn_EN write selects the operation. -/
theorem writeOp_mnemonic_congr (r : Reg) {d d' : Word} (h : d.getLsbD 0 = d'.getLsbD 0) :
    (writeOp r d).toOption.map Instr.mnemonic = (writeOp r d').toOption.map Instr.mnemonic := by
  cases r with
  | chEn n => simp only [writeOp, h]
  | _ => rfl

theorem decodedMnemonic_header (t : BusWord) : decodedMnemonic (t &&& headerMask) = decodedMnemonic t := by
  have hbit : (BitVec.setWidth 32 (BitVec.ofBool (t.getLsbD 0))).getLsbD 0 = (busData t).getLsbD 0 := by simp [busData]
  rw [and_headerMask, decodedMnemonic, decodedMnemonic, decode_busWord, decode]
  unfold decodeFields
  cases regAt (busAddr t) with
  | error e => rfl
  | ok r =>
    cases busWe t with
    | false => rfl
    | true => exact writeOp_mnemonic_congr r hbit

/-- R86 on the 1024 headers. -/
theorem decodedMnemonic_of_header : ∀ (we : Bool) (a : Offset) (b : Bool),
    decodedMnemonic (busWord we a (BitVec.setWidth 32 (BitVec.ofBool b))) =
      (opRows.find? (·.selects (busWord we a (BitVec.setWidth 32 (BitVec.ofBool b))))).map OpRow.mnemonic := by
  decide +kernel

/-- R86, R87: the decoder's operation is that of the row which the table selects, and there is none where it selects
none. -/
theorem decodedMnemonic_eq_row (t : BusWord) :
    decodedMnemonic t = (opRows.find? (·.selects t)).map OpRow.mnemonic := by
  have hrows : opRows.find? (·.selects (t &&& headerMask)) = opRows.find? (·.selects t) :=
    List.find?_congr fun r hr => selects_header hr t
  rw [← decodedMnemonic_header, ← hrows, and_headerMask]
  exact decodedMnemonic_of_header _ _ _

/-- R86: two rows that one word selects agree on the bits that both masks show. -/
theorem patterns_agree {t : BusWord} {r r' : OpRow} (h : t &&& r.mask = r.pattern) (h' : t &&& r'.mask = r'.pattern) :
    r.pattern &&& r'.mask = r'.pattern &&& r.mask := by
  rw [← h, ← h', BitVec.and_assoc, BitVec.and_assoc, BitVec.and_comm r.mask]

/-- R86: no two rows agree on the bits that both masks show. -/
theorem row_eq_of_patterns_agree :
    ∀ r ∈ opRows, ∀ r' ∈ opRows, r.pattern &&& r'.mask = r'.pattern &&& r.mask → r = r' := by
  decide +kernel

theorem row_unique {t : BusWord} {r r' : OpRow} (hr : r ∈ opRows) (hr' : r' ∈ opRows)
    (h : t &&& r.mask = r.pattern) (h' : t &&& r'.mask = r'.pattern) : r = r' :=
  row_eq_of_patterns_agree r hr r' hr' (patterns_agree h h')

theorem find_row {t : BusWord} {r : OpRow} (hr : r ∈ opRows) (h : t &&& r.mask = r.pattern) :
    opRows.find? (·.selects t) = some r := by
  have hsel : r.selects t = true := by simp [OpRow.selects, h]
  obtain ⟨r', hfind⟩ := Option.isSome_iff_exists.1 ((List.find?_isSome (p := (·.selects t))).2 ⟨r, hr, hsel⟩)
  have h' : t &&& r'.mask = r'.pattern := by simpa [OpRow.selects] using List.find?_some hfind
  rw [hfind, row_unique (List.mem_of_find?_eq_some hfind) hr h' h]

theorem decode_of_row {t : BusWord} {r : OpRow} (hr : r ∈ opRows) (h : t &&& r.mask = r.pattern) :
    ∃ i, decode t = .ok i ∧ i.mnemonic = r.mnemonic := by
  have hm := decodedMnemonic_eq_row t
  rw [find_row hr h] at hm
  cases hd : decode t with
  | ok i => exact ⟨i, rfl, by simpa [decodedMnemonic, hd, Except.toOption] using hm⟩
  | error e => simp [decodedMnemonic, hd, Except.toOption] at hm

theorem decode_of_no_row {t : BusWord} (h : ∀ r ∈ opRows, t &&& r.mask ≠ r.pattern) : ∃ e, decode t = .error e := by
  have hm := decodedMnemonic_eq_row t
  have hnone : opRows.find? (·.selects t) = none := List.find?_eq_none.2 fun r hr => by simp [OpRow.selects, h r hr]
  rw [hnone] at hm
  cases hd : decode t with
  | ok i => simp [decodedMnemonic, hd, Except.toOption] at hm
  | error e => exact ⟨e, rfl⟩

end Sys2Proof

namespace Sys2Proof.Machine

open Sys2Proof.Claims

/-- R87, R88: a word that selects no operation is refused, whatever the reason. -/
theorem busEvent_of_error {t : BusWord} {e : Reject} (h : decode t = .error e) (s : State) :
    busEvent t s = .next (refused s) := by
  unfold busEvent
  rw [h]
  rfl

/-- Settles O3: rows that select one word are equal because their patterns agree where both masks look; the rest is the
table's agreement with the decoder. -/
theorem transactionSelectsOneTableRow : Obligations.TransactionSelectsOneTableRow := by
  refine ⟨fun t r hr r' hr' => row_unique hr hr', fun t r hr => decode_of_row hr, fun t hnone s => ?refused⟩
  case refused =>
    obtain ⟨e, he⟩ := decode_of_no_row hnone
    exact busEvent_of_error he s

/-! ## Illegal transactions (R88) -/

/-- R63, R66: the offsets that hold no register. -/
theorem regAt_error_iff (a : Offset) :
    (∃ e, regAt a = .error e) ↔ a.toNat % 4 ≠ 0 ∨ unmappedOffset a.toNat := by
  have key : ∀ a : Offset, (regAt a).toOption = none ↔ a.toNat % 4 ≠ 0 ∨ unmappedOffset a.toNat := by
    unfold unmappedOffset
    decide +kernel
  rw [← key a]
  cases regAt a <;> simp [Except.toOption]

/-- R175 item 3: the registers that no write reaches. -/
theorem writeOp_error_iff (r : Reg) (d : Word) : (∃ e, writeOp r d = .error e) ↔ readOnlyOffset r.offset.toNat := by
  unfold readOnlyOffset
  cases r with
  | maxDuty | status | fault | faultInfo | warn | pscDiv => exact iff_of_true ⟨_, rfl⟩ (by decide)
  | curPos n | curHold n => exact iff_of_true ⟨_, rfl⟩ (by revert n; decide)
  | config | seqStart => exact iff_of_false (by simp [writeOp]) (by decide)
  | chEn n | chDuty n | chDutyFrac n | curSeq n | stepFrac n | stepHold n =>
    exact iff_of_false (by simp [writeOp]) (by revert n; decide)

/-- R175 item 4: the registers that no read reaches. -/
theorem readOp_error_iff (r : Reg) :
    (∃ e, readOp r = .error e) ↔ r.offset.toNat = 0x28 ∨ r.offset.toNat = 0x38 := by
  cases r with
  | chDutyFrac n => exact iff_of_true ⟨_, rfl⟩ (by revert n; decide)
  | config | maxDuty | status | fault | faultInfo | warn | pscDiv | seqStart =>
    exact iff_of_false (by simp [readOp]) (by decide)
  | chEn n | chDuty n | curSeq n | curPos n | curHold n | stepFrac n | stepHold n =>
    exact iff_of_false (by simp [readOp]) (by revert n; decide)

/-- R88: at an offset with no register the first two items of the list hold; at a register's offset they do not, and the
direction decides. -/
theorem illegal_iff_decode_error (t : BusWord) : Illegal t ↔ ∃ e, decode t = .error e := by
  have haddr := regAt_error_iff (busAddr t)
  unfold Illegal decode decodeFields
  rw [← or_assoc, ← haddr]
  cases hreg : regAt (busAddr t) with
  | error e => simp
  | ok r =>
    rw [regAt_eq_ok.1 hreg]
    cases busWe t with
    | true => simp [writeOp_error_iff]
    | false => simp [readOp_error_iff]

/-- Settles O4: what the decoder rejects is refused. -/
theorem illegalTransactionsAreRefused : Obligations.IllegalTransactionsAreRefused := by
  refine fun t => ⟨illegal_iff_decode_error t, fun hill s => ?_⟩
  obtain ⟨e, he⟩ := (illegal_iff_decode_error t).1 hill
  exact busEvent_of_error he s

/-! ## Reserved bits (R89) -/

/-- A write to a register has the outcome of the operation that the data word selects. -/
theorem hostWrite_congr {r : Reg} {d d' : Word} (h : writeOp r d = writeOp r d') (s : State) :
    hostWrite r.offset d s = hostWrite r.offset d' s := by
  simp [hostWrite, busEvent, decodeFields, h]

/-- A field on which the mask is all ones is read through it unchanged. -/
theorem extractLsb'_and_mask {m : Word} {start len : Nat} (hm : m.extractLsb' start len = BitVec.allOnes len)
    (d : Word) :
    (d &&& m).extractLsb' start len = d.extractLsb' start len := by
  rw [BitVec.extractLsb'_and, hm, BitVec.and_allOnes]

/-- R82: CONFIG's fields are `wdata[15:0]` and `wdata[17:16]`. -/
theorem writeOp_config_mask (d : Word) : writeOp .config d = writeOp .config (d &&& 0x0003FFFF) := by
  have hhz := extractLsb'_and_mask (m := 0x0003FFFF) (start := 0) (len := 16) rfl d
  have hreq := extractLsb'_and_mask (m := 0x0003FFFF) (start := 16) (len := 2) rfl d
  rw [writeOp, writeOp, hhz, hreq]

/-- R85: SEQ_START's field is `wdata[1:0]`. -/
theorem writeOp_seqStart_mask (d : Word) : writeOp .seqStart d = writeOp .seqStart (d &&& 0x00000003) := by
  have hsel := extractLsb'_and_mask (m := 0x00000003) (start := 0) (len := 2) rfl d
  rw [writeOp, writeOp, hsel]

/-- R83: CHn_EN's field is `wdata[0]`. -/
theorem writeOp_chEn_mask (n : Chan) (d : Word) : writeOp (.chEn n) d = writeOp (.chEn n) (d &&& 0x00000001) := by
  have hbit : (d &&& 0x00000001).getLsbD 0 = d.getLsbD 0 := by simp
  rw [writeOp, writeOp, hbit]

/-- R85: CURk_SEQ's fields are the three low bytes and `wdata[25:24]`. -/
theorem writeOp_curSeq_mask (k : CurNum) (d : Word) :
    writeOp (.curSeq k) d = writeOp (.curSeq k) (d &&& 0x03FFFFFF) := by
  have hbase := extractLsb'_and_mask (m := 0x03FFFFFF) (start := 0) (len := 8) rfl d
  have hlen := extractLsb'_and_mask (m := 0x03FFFFFF) (start := 8) (len := 8) rfl d
  have hstart := extractLsb'_and_mask (m := 0x03FFFFFF) (start := 16) (len := 8) rfl d
  have hchm := extractLsb'_and_mask (m := 0x03FFFFFF) (start := 24) (len := 2) rfl d
  rw [writeOp, writeOp, hbase, hlen, hstart, hchm]

/-- A word of `w` bits, extended to 32, shows nothing through a mask whose low `w` bits are 0. -/
theorem setWidth_and_eq_zero {w : Nat} (x : BitVec w) {m : Word} (hm : m.setWidth w = 0) : x.setWidth 32 &&& m = 0 := by
  apply BitVec.eq_of_getLsbD_eq
  intro i hi
  rw [BitVec.getLsbD_and, BitVec.getLsbD_setWidth]
  by_cases hiw : i < w
  · have hbit : (m.setWidth w).getLsbD i = m.getLsbD i := by simp [hiw]
    simp [← hbit, hm]
  · simp [BitVec.getLsbD_of_ge x i (by omega)]

/-- Settles O5: a write's operation is made from the fields that its mask shows, and a read's word is the extension of
its fields to 32 bits. -/
theorem reservedBitsAreIgnored : Obligations.ReservedBitsAreIgnored := by
  exact fun d n k s => ⟨hostWrite_congr (r := .config) (writeOp_config_mask d) s,
    hostWrite_congr (r := .seqStart) (writeOp_seqStart_mask d) s,
    hostWrite_congr (r := .chEn n) (writeOp_chEn_mask n d) s,
    hostWrite_congr (r := .curSeq k) (writeOp_curSeq_mask k d) s,
    setWidth_and_eq_zero _ rfl, setWidth_and_eq_zero _ rfl, setWidth_and_eq_zero _ rfl, setWidth_and_eq_zero _ rfl⟩

end Sys2Proof.Machine
end

section
/-! Words as numbers: the transaction word of a host operation and the words that the driver's reads return
(30_encoding.md R80, R82 to R85). -/

namespace Sys2Proof

open Sys2Proof.Claims

theorem toNat_append_eq {m n : Nat} (x : BitVec m) (y : BitVec n) : (x ++ y).toNat = x.toNat * 2 ^ n + y.toNat := by
  rw [BitVec.toNat_append, ← Nat.shiftLeft_add_eq_or_of_lt y.isLt, Nat.shiftLeft_eq]

theorem numBit_toNat (n : Fin 2) : (numBit n).toNat = n.val := Nat.mod_eq_of_lt n.isLt

/-- R10: `zext_32` of a field whose number is `v`. -/
theorem setWidth_eq_ofNat {w v : Nat} {x : BitVec w} (h : x.toNat = v) : x.setWidth 32 = BitVec.ofNat 32 v := by
  rw [← h, BitVec.ofNat_toNat]

/-- R80: T as a number. -/
theorem busWord_eq_ofNat (we : Bool) (a : Offset) (d : Word) :
    busWord we a d = BitVec.ofNat 41 (we.toNat * 2 ^ 40 + a.toNat * 2 ^ 32 + d.toNat) := by
  have hnum : (BitVec.ofBool we ++ a ++ d).toNat = we.toNat * 2 ^ 40 + a.toNat * 2 ^ 32 + d.toNat := by
    rw [toNat_append_eq, toNat_append_eq, BitVec.toNat_ofBool]
    omega
  rw [busWord, ← hnum, BitVec.ofNat_toNat]

theorem encode_eq_wordOf {i : Instr} {we : Bool} {r : Reg} {d : Word} {w a v : Nat}
    (hi : i.transaction = some (we, r, d)) (hw : we.toNat = w) (ha : r.offset.toNat = a) (hv : d.toNat = v) :
    encode i = wordOf w a v := by
  rw [encode, hi, wordOf, ← hw, ← ha, ← hv, ← busWord_eq_ofNat]

/-! ## The channel banks (R65, R81) -/

theorem chEn_offset_toNat (n : Chan) : (Reg.chEn n).offset.toNat = 0x20 + 0x10 * n.val := by
  revert n; decide

theorem chDuty_offset_toNat (n : Chan) : (Reg.chDuty n).offset.toNat = 0x24 + 0x10 * n.val := by
  revert n; decide

theorem chDutyFrac_offset_toNat (n : Chan) : (Reg.chDutyFrac n).offset.toNat = 0x28 + 0x10 * n.val := by
  revert n; decide

/-- R87: a write to a register's offset is the operation that the data word selects. -/
theorem decode_write_offset (r : Reg) (d : Word) : decode (busWord true r.offset d) = writeOp r d := by
  simp [decodeFields]

/-- R82: CONFIG's fields as a number. -/
theorem append_hz_toNat (hz : BitVec 16) (req : Set2) : (req ++ hz).toNat = req.toNat * 65536 + hz.toNat :=
  toNat_append_eq req hz

theorem configData_toNat (hz : BitVec 16) (req : Set2) : (configData hz req).toNat = req.toNat * 65536 + hz.toNat := by
  rw [configData, BitVec.toNat_setWidth_of_le (by decide), append_hz_toNat]

end Sys2Proof

namespace Sys2Proof.Machine

open Sys2Proof.Claims

/-! ## What the driver's reads return (R105, R115 to R120, R109, R112) -/

section
variable (s : State)

theorem configWord_eq_ofNat : configWord s = BitVec.ofNat 32 (s.alloc.toNat * 65536 + s.carrierHz.toNat) :=
  setWidth_eq_ofNat (append_hz_toNat s.carrierHz s.alloc)

theorem maxDutyWord_eq_ofNat : maxDutyWord s = BitVec.ofNat 32 s.maxDuty.toNat := setWidth_eq_ofNat rfl

theorem statusWord_eq_ofNat : statusWord s = BitVec.ofNat 32 ((s.faultHwinit || s.faultInvalidStep).toNat * 16
    + s.seqState.code.toNat * 4 + s.drvState.code.toNat) := by
  refine setWidth_eq_ofNat ?_
  rw [toNat_append_eq, toNat_append_eq, BitVec.toNat_ofBool, fatal]
  omega

theorem faultWord_eq_ofNat : faultWord s =
    BitVec.ofNat 32 (s.faultUsage.toNat * 4 + s.faultInvalidStep.toNat * 2 + s.faultHwinit.toNat) := by
  refine setWidth_eq_ofNat ?_
  rw [toNat_append_eq, toNat_append_eq, BitVec.toNat_ofBool, BitVec.toNat_ofBool, BitVec.toNat_ofBool]
  omega

theorem faultInfoWord_eq_ofNat : faultInfoWord s =
    BitVec.ofNat 32 (s.faultStep.toNat * 256 + s.faultCur.val * 16 + s.faultCause.toNat) := by
  refine setWidth_eq_ofNat ?_
  rw [toNat_append_eq, toNat_append_eq, toNat_append_eq, numBit_toNat, BitVec.toNat_ofNat]
  omega

theorem warnWord_eq_ofNat : warnWord s = BitVec.ofNat 32 (s.warnSat[1].toNat * 2 + s.warnSat[0].toNat) := by
  refine setWidth_eq_ofNat ?_
  rw [toNat_append_eq, BitVec.toNat_ofBool, BitVec.toNat_ofBool]
  omega

theorem pscDivWord_eq_ofNat : pscDivWord s = BitVec.ofNat 32 s.pscDiv.toNat := setWidth_eq_ofNat rfl

theorem enWord_eq_ofNat (n : Chan) : enWord s n = BitVec.ofNat 32 s.enabled[n.val].toNat :=
  setWidth_eq_ofNat (BitVec.toNat_ofBool _)

theorem dutyWord_eq_ofNat (n : Chan) : dutyWord s n = BitVec.ofNat 32 s.dutyValue[n.val].toNat := setWidth_eq_ofNat rfl

end

/-- R67: an operation that responds with a word answers that word's number. -/
theorem answers_of_respond {i : Instr} {s : State} {w : Word} {v : Nat} (hi : exec i s = .next (respond w s))
    (hw : w = BitVec.ofNat 32 v) : Answers i s v := by
  rw [Answers, hi, hw]
  rfl

theorem answers_rdConfig (s : State) : Answers .rdConfig s (s.alloc.toNat * 65536 + s.carrierHz.toNat) :=
  answers_of_respond rfl (configWord_eq_ofNat s)

theorem answers_resolution (s : State) : Answers .resolution s s.maxDuty.toNat :=
  answers_of_respond rfl (maxDutyWord_eq_ofNat s)

theorem answers_rdFaultInfo (s : State) :
    Answers .rdFaultInfo s (s.faultStep.toNat * 256 + s.faultCur.val * 16 + s.faultCause.toNat) :=
  answers_of_respond rfl (faultInfoWord_eq_ofNat s)

theorem answers_rdPscDiv (s : State) : Answers .rdPscDiv s s.pscDiv.toNat :=
  answers_of_respond rfl (pscDivWord_eq_ofNat s)

theorem answers_rdEn (s : State) (n : Chan) : Answers (.rdEn n) s s.enabled[n.val].toNat :=
  answers_of_respond rfl (enWord_eq_ofNat s n)

/-! ## The registers of a driver that is not Configured (R22, R24, R40) -/

theorem Invariants.maxDuty_eq_zero {s : State} (hinv : Invariants s) (hdrv : s.drvState ≠ .configured) :
    s.maxDuty.toNat = 0 := by
  have hpos : ¬ 1 ≤ s.maxDuty.toNat := fun h => hdrv (hinv.configured_iff.2 h)
  omega

/-- R40 items 2 and 6: an enabled channel is an allocated one of a configured driver. -/
theorem Invariants.enabled_eq_false {s : State} {n : Chan} (hinv : Invariants s)
    (h : s.drvState ≠ .configured ∨ s.alloc.getLsbD n.val = false) : s.enabled[n.val] = false := by
  rcases h with hdrv | halloc
  · exact (hinv.driver_clear hdrv).enabled n
  · rw [Bool.eq_false_iff]
    intro hen
    exact absurd (hinv.enabled_alloc n hen) (by simp [inSet, halloc])

/-- R22 to R24: in a configured driver no event but RESET rewrites what CONFIGURE stored: CONFIGURE's own outcomes past
its precondition need Unconfigured. -/
theorem exec_keeps_timer_configuration {i : Instr} {s t : State} (h : exec i s = .next t)
    (hdrv : s.drvState = .configured) (hi : i ≠ .reset) :
    t.carrierHz = s.carrierHz ∧ t.alloc = s.alloc ∧ t.pscDiv = s.pscDiv ∧ t.maxDuty = s.maxDuty := by
  have hconf : s.drvState ≠ .unconfigured := by simp [hdrv]
  rcases exec_cases h with ⟨w, r, -, rfl⟩ | ⟨r, d, -, rfl⟩ | ⟨hz, req, e, -, -, hun, -⟩ | ⟨hz, req, p, m, -, hun, -⟩ |
    ⟨sel, e, -, -, -, -, -, -, rfl⟩ | ⟨sel, -, -, -, -, -, rfl⟩ | ⟨n, b, -, -, -, rfl⟩ | ⟨n, v, -, -, -, rfl⟩ |
    ⟨k, base, len, start, chm, -, -, rfl⟩ | ⟨e, w, -, -, rfl⟩ | ⟨e, w, -, -, rfl⟩ | ⟨-, rfl⟩ | ⟨-, rfl⟩ | ⟨hr, -⟩
  · simp
  · simp
  · exact absurd hun hconf
  · exact absurd hun hconf
  · simp
  · simp
  · simp
  · simp
  · simp
  · simp
  · simp
  · simp
  · simp
  · exact absurd hr hi

/-- Settles O12: each word is the number of its fields; what is 0 before a CONFIGURE or a fatal error is so by R40, and
what CONFIGURE stored stays. -/
theorem driverReadsReturnTheirWords : Obligations.DriverReadsReturnTheirWords := by
  have hread {i : Instr} {r : Reg} {a : Nat} (hi : i.transaction = some (false, r, 0)) (ha : r.offset.toNat = a) :
      encode i = wordOf 0 a 0 := encode_eq_wordOf hi rfl ha rfl
  refine ⟨⟨hread rfl rfl, hread rfl rfl, hread rfl rfl, hread rfl rfl, hread rfl rfl, hread rfl rfl, hread rfl rfl⟩,
    fun s => ⟨answers_rdConfig s, answers_resolution s, answers_of_respond rfl (statusWord_eq_ofNat s),
      answers_of_respond rfl (faultWord_eq_ofNat s), answers_rdFaultInfo s,
      answers_of_respond rfl (warnWord_eq_ofNat s), answers_rdPscDiv s, fun hinv hdrv => ?notConfigured,
      fun hinv hhw his => ?noError, fun hinv hdrv => ?configured,
      fun i t hdrv hi h => ?stored⟩⟩
  case notConfigured =>
    obtain ⟨hhz, halloc, hpsc⟩ := hinv.unconfigured_zero hdrv
    have hconfig := answers_rdConfig s
    have hres := answers_resolution s
    have hdiv := answers_rdPscDiv s
    rw [hhz, halloc] at hconfig
    rw [hinv.maxDuty_eq_zero hdrv] at hres
    rw [hpsc] at hdiv
    exact ⟨hconfig, hres, hdiv⟩
  case noError =>
    obtain ⟨hcause, hcur, hstep⟩ := hinv.fatal_info (by simp [fatal, hhw, his])
    have hinfo := answers_rdFaultInfo s
    rw [hcause, hcur, hstep] at hinfo
    exact hinfo
  case configured =>
    have hpos := hinv.configured_iff.1 hdrv
    intro hzero
    simp [hzero] at hpos
  case stored =>
    obtain ⟨-, -, -, hmax⟩ := exec_keeps_timer_configuration h hdrv hi
    exact hmax

/-- R29: no register shows `duty_active`. -/
theorem memWord_dutyActive (s : State) (v : Vector DutyWord 2) (a : Offset) :
    memWord { s with dutyActive := v } a = memWord s a := by
  cases hreg : regAt a with
  | error e => simp [memWord, hreg]
  | ok r =>
    have hword : regWord { s with dutyActive := v } r = regWord s r := by cases r <;> rfl
    simp [memWord, hreg, hword]

/-- R61, R67: the response of a host read is a function of the word at its offset. -/
theorem hostRead_resp_congr {a : Offset} {s s' u u' : State} (hword : memWord s' a = memWord s a)
    (h : hostRead a s = .next u) (h' : hostRead a s' = .next u') : u'.resp = u.resp := by
  cases hw : memWord s a with
  | some w =>
    rw [hostRead_of_word hw] at h
    rw [hostRead_of_word (hword.trans hw)] at h'
    cases h
    cases h'
    rfl
  | none =>
    rw [hostRead_of_no_word hw] at h
    rw [hostRead_of_no_word (hword.trans hw)] at h'
    cases h
    cases h'
    rfl

/-- Settles O13: the words are the channel's two fields, a channel that is not open is disabled by R40, and no register
shows `duty_active`. -/
theorem channelReadsReturnTheirWords : Obligations.ChannelReadsReturnTheirWords := by
  refine fun s n => ⟨encode_eq_wordOf rfl rfl (chEn_offset_toNat n) rfl,
    encode_eq_wordOf rfl rfl (chDuty_offset_toNat n) rfl, answers_rdEn s n,
    answers_of_respond rfl (dutyWord_eq_ofNat s n), fun hinv hclosed => ?disabled,
    fun a v u u' => hostRead_resp_congr (memWord_dutyActive s v a)⟩
  case disabled =>
    have hen := answers_rdEn s n
    rw [hinv.enabled_eq_false hclosed] at hen
    exact hen

end Sys2Proof.Machine
end

section
/-! CONFIGURE and `derive_dividers`: the contract of the parameter (R102), the outcomes of CONFIGURE (R100), and the one
CONFIGURE between two resets (R101). -/

namespace Sys2Proof.Machine

open Sys2Proof.Claims

/-! ## The contract of `derive_dividers` (R102) -/

/-- R103: the prescaler that the loop finds divides the cycles of a frame, so the pair's product is their number. -/
theorem defaultDividers_exact {t hz p m : Nat} (h : defaultDividers t hz = some (p, m)) :
    1 ≤ p ∧ p ≤ 65536 ∧ 1 ≤ m ∧ m ≤ 65536 ∧ p * m * hz = t := by
  rcases defaultDividers_cases t hz with ⟨hnone, -⟩ | ⟨q, -, hdvd, htotal, hfind, hpair⟩
  · simp [hnone] at h
  · obtain ⟨rfl, rfl⟩ : q = p ∧ t / hz / q = m := by simpa [hpair] using h
    obtain ⟨hq, hfit⟩ := (prescalerFits_iff _ _).1 (List.find?_some hfind)
    obtain ⟨hq1, hq2⟩ := List.mem_range'_1.1 (List.mem_of_find?_eq_some hfind)
    have hprod : q * (t / hz / q) = t / hz := Nat.mul_div_cancel' (Nat.dvd_of_mod_eq_zero hq)
    have hpos : 1 ≤ t / hz / q := by
      rw [Nat.one_le_iff_ne_zero]
      intro hzero
      exact htotal (by simpa [hzero] using hprod.symm)
    exact ⟨hq1, by omega, hpos, hfit, by rw [hprod, Nat.div_mul_cancel (Nat.dvd_of_mod_eq_zero hdvd)]⟩

/-- R102: a departure is admitted under the contract, and the default meets it. -/
theorem deriveDividers_exact {table : List DividerEntry} {t : Word} {hz : BitVec 16} {p m : Nat}
    (h : deriveDividers table t hz = some (p, m)) :
    1 ≤ p ∧ p ≤ 65536 ∧ 1 ≤ m ∧ m ≤ 65536 ∧ p * m * hz.toNat = t.toNat := by
  rcases deriveDividers_cases table t hz with ⟨e, -, rfl, rfl, hadm, hpair⟩ | hdefault
  · rw [DividerEntry.admissible, ← hpair, h] at hadm
    exact (isDividerPair_iff _ _ _ _).1 hadm
  · exact defaultDividers_exact (hdefault ▸ h)

/-- R102: where the contract admits no pair there is none. -/
theorem deriveDividers_eq_none {table : List DividerEntry} {t : Word} {hz : BitVec 16}
    (h : ∀ p m, 1 ≤ p → p ≤ 65536 → 1 ≤ m → m ≤ 65536 → p * m * hz.toNat ≠ t.toNat) :
    deriveDividers table t hz = none := by
  rw [Option.eq_none_iff_forall_ne_some]
  rintro ⟨p, m⟩ hpair
  obtain ⟨hp1, hp2, hm1, hm2, hprod⟩ := deriveDividers_exact hpair
  exact h p m hp1 hp2 hm1 hm2 hprod

/-- A stopped timer clock has no pair. -/
theorem deriveDividers_zero_clock (table : List DividerEntry) {hz : BitVec 16} (hhz : hz ≠ 0) :
    deriveDividers table 0 hz = none := by
  have hpos : hz.toNat ≠ 0 := fun h => hhz (BitVec.eq_of_toNat_eq h)
  refine deriveDividers_eq_none fun p m hp _ hm _ => ?_
  exact Nat.mul_ne_zero (Nat.mul_ne_zero (by omega) (by omega)) hpos

/-- R100, R102: the frame of a timer that CONFIGURE set up lasts 1/50 s. -/
theorem exec_configure_frame {hz : BitVec 16} {req : Set2} {s t : State} (h : exec (.configure hz req) s = .next t)
    (hs : s.drvState = .unconfigured) (ht : t.drvState = .configured) :
    t.pscDiv.toNat * t.maxDuty.toNat * 50 = s.ports.timclkHz.toNat := by
  rcases execConfigure_cases h with rfl | ⟨e, he, -, -, -, rfl⟩ | ⟨p, m, -, hhz, -, -, hpair, rfl⟩
  · simp [hs] at ht
  · rw [raise_hardwareInit he] at ht
    cases ht
  · obtain ⟨-, hp, -, hm, hprod⟩ := deriveDividers_exact hpair
    have hpsc : (BitVec.ofNat 17 p).toNat = p := Nat.mod_eq_of_lt (by omega)
    have hmax : (BitVec.ofNat 17 m).toNat = m := Nat.mod_eq_of_lt (by omega)
    rw [← hprod, hhz]
    simp only [ack_pscDiv, ack_maxDuty, configureTimer, hpsc, hmax]

/-- Settles O18: no answer breaks the contract, so there is none where the contract admits none. -/
theorem dividerPairsAreExact : Obligations.DividerPairsAreExact :=
  ⟨fun _ _ _ _ _ => deriveDividers_exact, fun _ _ _ => deriveDividers_eq_none, fun _ _ _ _ => exec_configure_frame⟩

/-! ## CONFIGURE (R100) -/

theorem exec_configure_refused {hz : BitVec 16} {req : Set2} {s : State}
    (h : s.drvState ≠ .unconfigured ∨ hz = 0 ∨ req = 0) : exec (.configure hz req) s = .next (refused s) := by
  have hpre : ¬ (s.drvState = .unconfigured ∧ hz ≠ 0 ∧ req ≠ 0) := by tauto
  simp only [exec, execConfigure, if_neg hpre]
  rfl

theorem exec_configure_accepted {hz : BitVec 16} {req : Set2} {s : State} (hdrv : s.drvState = .unconfigured)
    (hhz : hz ≠ 0) (hreq : req ≠ 0) : exec (.configure hz req) s = .next (tryConfigure hz req s) := by
  simp only [exec, execConfigure, if_pos (And.intro hdrv (And.intro hhz hreq))]

section
variable {hz : BitVec 16} {req : Set2} {s : State}

theorem tryConfigure_clkInvalid (hclk : s.ports.clkValid = false) : tryConfigure hz req s = hwInitFailed 1 s := by
  simp only [tryConfigure, if_pos hclk]
  exact raise_hardwareInit rfl s

theorem tryConfigure_freqUnsupported (hclk : s.ports.clkValid = true) (hhz : hz ≠ 50) :
    tryConfigure hz req s = hwInitFailed 2 s := by
  have hne : hz.toNat ≠ Config.carrierHz := fun h => hhz (BitVec.eq_of_toNat_eq h)
  simp only [tryConfigure, hclk, Bool.true_eq_false, if_false, if_pos hne]
  exact raise_hardwareInit rfl s

theorem tryConfigure_noPair (hclk : s.ports.clkValid = true) (hhz : hz = 50)
    (hpair : deriveDividers s.dividers s.ports.timclkHz hz = none) : tryConfigure hz req s = hwInitFailed 3 s := by
  have heq : hz.toNat = Config.carrierHz := hhz ▸ rfl
  simp only [tryConfigure, hclk, Bool.true_eq_false, if_false, heq, ne_eq, not_true, hpair]
  exact raise_hardwareInit rfl s

theorem tryConfigure_pair {p m : Nat} (hclk : s.ports.clkValid = true) (hhz : hz = 50)
    (hpair : deriveDividers s.dividers s.ports.timclkHz hz = some (p, m)) :
    tryConfigure hz req s = ack (configureTimer hz req p m s) := by
  have heq : hz.toNat = Config.carrierHz := hhz ▸ rfl
  simp only [tryConfigure, hclk, Bool.true_eq_false, if_false, heq, ne_eq, not_true, hpair]

end

/-- Settles O16: past the precondition, one equation for each cause and one for the pair. -/
theorem configureOutcome : Obligations.ConfigureOutcome := by
  refine fun hz req s => ⟨encode_eq_wordOf rfl rfl rfl (configData_toNat hz req), exec_configure_refused,
    fun hdrv hhz hreq => ?accepted⟩
  rw [exec_configure_accepted hdrv hhz hreq]
  refine ⟨fun hclk => congrArg _ (tryConfigure_clkInvalid hclk),
    fun hclk hne => congrArg _ (tryConfigure_freqUnsupported hclk hne),
    fun hclk heq hpair => congrArg _ (tryConfigure_noPair hclk heq hpair),
    fun hclk heq hstopped => congrArg _ (tryConfigure_noPair hclk heq ?stopped), fun p m hclk heq hpair => ?configured⟩
  case stopped => exact hstopped ▸ deriveDividers_zero_clock s.dividers hhz
  case configured =>
    rw [tryConfigure_pair hclk heq hpair, heq]
    rfl

/-- Settles O17: CONFIGURE's precondition needs Unconfigured, and every change of `drv_state` but RESET's starts
there. -/
theorem configureAcceptedOnce : Obligations.ConfigureAcceptedOnce := by
  refine fun s hs => ⟨fun hz req => exec_configure_refused (.inl hs), fun i t hi h ht => ?stays,
    ⟨resetAll s, rfl, rfl⟩⟩
  case stays =>
    have hchanged : t.drvState ≠ s.drvState := fun heq => hs (heq ▸ ht)
    obtain ⟨hz, req, -, hun, -⟩ := (driverTransitions i s t h).2 hi hchanged
    exact hs hun

end Sys2Proof.Machine
end

section
/-! The channel operations ENABLE, DISABLE, SET_DUTY and SET_DUTY_FRAC (R106 to R111) and the clamped duty write
(R110). -/

namespace Sys2Proof.Machine

open Sys2Proof.Claims

/-! ## The precondition (R106 to R111) -/

theorem channelOpen_iff_open (s : State) (n : Chan) : channelOpen s n = true ↔ Open s n := channelOpen_iff s n

theorem onChannel_of_open {s : State} {n : Chan} (f : State → State) (h : Open s n) : onChannel n f s = acked (f s) :=
  onChannel_open f ((channelOpen_iff_open s n).2 h)

theorem onChannel_of_not_open {s : State} {n : Chan} (f : State → State) (h : ¬ Open s n) :
    onChannel n f s = refused s :=
  onChannel_closed f (Bool.eq_false_iff.2 (mt (channelOpen_iff_open s n).1 h))

/-! ## ENABLE and DISABLE (R106, R107) -/

/-- What an accepted ENABLE (`b` set) or DISABLE (`b` clear) of channel n leaves. -/
def withEnabled (n : Chan) (b : Bool) (s : State) : State :=
  { s with enabled := s.enabled.set n b, resp := some ⟨0, false⟩ }

theorem exec_enable_of_open {s : State} {n : Chan} (h : Open s n) :
    exec (.enable n) s = .next (withEnabled n true s) := congrArg _ (onChannel_of_open _ h)

theorem exec_disable_of_open {s : State} {n : Chan} (h : Open s n) :
    exec (.disable n) s = .next (withEnabled n false s) := congrArg _ (onChannel_of_open _ h)

theorem open_withEnabled {s : State} {n : Chan} (b : Bool) (h : Open s n) : Open (withEnabled n b s) n := h

theorem withEnabled_withEnabled (n : Chan) (b : Bool) (s : State) :
    withEnabled n b (withEnabled n b s) = withEnabled n b s := by
  simp [withEnabled]

/-- R51, R106, R107: the gate follows `enabled[n]` at once. -/
theorem pwmOut_withEnabled {s : State} {n : Chan} (b : Bool) (h : Open s n) :
    pwmOut (withEnabled n b s) n = true ↔ b = true ∧ s.cnt.toNat < s.dutyActive[n.val].toNat := by
  obtain ⟨hdrv, halloc⟩ := h
  simp [pwmOut_eq_true, withEnabled, hdrv, halloc]

/-- Settles O21: the write selects ENABLE by its bit 0, and the gate of an open, enabled channel is the comparator. -/
theorem enableOutcome : Obligations.EnableOutcome := by
  refine fun n s => ⟨fun d hd => ?encoding, fun h => congrArg _ (onChannel_of_not_open _ h), fun h =>
    ⟨withEnabled n true s, exec_enable_of_open h, rfl, ?again, ?gate⟩⟩
  case encoding => exact (decode_write_offset (.chEn n) d).trans (by simp only [writeOp, hd, if_true])
  case again => rw [exec_enable_of_open (open_withEnabled true h), withEnabled_withEnabled]
  case gate => simp [pwmOut_withEnabled true h]

/-- Settles O22: the write selects DISABLE by its bit 0, and the gate of a disabled channel is closed. -/
theorem disableOutcome : Obligations.DisableOutcome := by
  refine fun n s => ⟨fun d hd => ?encoding, fun h => congrArg _ (onChannel_of_not_open _ h), fun h =>
    ⟨withEnabled n false s, exec_disable_of_open h, rfl, ?again, ?gate⟩⟩
  case encoding =>
    exact (decode_write_offset (.chEn n) d).trans (by simp only [writeOp, hd, Bool.false_eq_true, if_false])
  case again => rw [exec_disable_of_open (open_withEnabled false h), withEnabled_withEnabled]
  case gate => simp [Bool.eq_false_iff, pwmOut_withEnabled false h]

/-! ## The duty writes (R108, R110, R111) -/

theorem dutyOf_below {v : Int} (m : DutyWord) (h : v < 0) : dutyOf v m = 0 := by
  simp [dutyOf, clamp, h]

theorem dutyOf_above {v : Int} {m : DutyWord} (h : (m.toNat : Int) < v) : dutyOf v m = m := by
  have hpos : ¬ v < 0 := by omega
  simp [dutyOf, clamp, h, hpos]

theorem dutyOf_in_range {v : Int} {m : DutyWord} (hlo : 0 ≤ v) (hhi : v ≤ m.toNat) :
    dutyOf v m = BitVec.ofInt 17 v := by
  simp [dutyOf, clamp, hlo.not_gt, hhi.not_gt]

/-- R110, R174: the write path in its three cases, below, above and in range. -/
theorem drvSetDuty_eq_clampedWrite (n : Chan) (v : Int) (s : State) : drvSetDuty n v s = clampedWrite n v s := by
  unfold clampedWrite
  rcases drvSetDuty_cases n v s with ⟨hnone, h⟩ | ⟨d, hsome, h⟩ <;> rw [h]
  · obtain ⟨hlo, hhi⟩ := (satDir_eq_none v s.maxDuty).1 hnone
    rw [if_neg hlo.not_gt, if_neg hhi.not_gt, dutyOf_in_range hlo hhi]
  · cases d with
    | below =>
      have hlt := (satDir_eq_below v s.maxDuty).1 hsome
      rw [if_pos hlt, dutyOf_below _ hlt]
    | above =>
      have hgt := (satDir_eq_above v s.maxDuty).1 hsome
      have hpos : ¬ v < 0 := by omega
      rw [if_neg hpos, if_pos hgt, dutyOf_above hgt]

theorem exec_setDuty_of_open {s : State} {n : Chan} (w : Word) (h : Open s n) :
    exec (.setDuty n w) s = .next (acked (clampedWrite n w.toInt s)) := by
  rw [← drvSetDuty_eq_clampedWrite, ← sint32_eq_toInt]
  exact congrArg _ (onChannel_of_open _ h)

theorem exec_setDutyFrac_of_open {s : State} {n : Chan} (f : Word) (h : Open s n) :
    exec (.setDutyFrac n f) s = .next (acked (clampedWrite n (fracToDuty f.toNat s.maxDuty.toNat : Nat) s)) := by
  rw [← drvSetDuty_eq_clampedWrite]
  exact congrArg _ (onChannel_of_open _ h)

theorem clampedWrite_in_range {v : Int} {s : State} (n : Chan) (hlo : 0 ≤ v) (hhi : v ≤ s.maxDuty.toNat) :
    clampedWrite n v s = { s with dutyValue := s.dutyValue.set n (BitVec.ofInt 17 v) } := by
  rw [clampedWrite, if_neg hlo.not_gt, if_neg hhi.not_gt]

/-- Settles O24: the operation is the clamped write of the two's complement operand on an open channel. -/
theorem setDutyOutcome : Obligations.SetDutyOutcome :=
  fun n w _ => ⟨encode_eq_wordOf rfl rfl (chDuty_offset_toNat n) rfl, fun h => congrArg _ (onChannel_of_not_open _ h),
    exec_setDuty_of_open w⟩

/-- Settles O25: the operation is the clamped write of the mapped fraction, which R113 law 4 keeps in range up to
1.0. -/
theorem setDutyFracOutcome : Obligations.SetDutyFracOutcome := by
  refine fun n f s => ⟨encode_eq_wordOf rfl rfl (chDutyFrac_offset_toNat n) rfl,
    fun h => congrArg _ (onChannel_of_not_open _ h), exec_setDutyFrac_of_open f, fun h hf => ?legal⟩
  case legal =>
    have hle : fracToDuty f.toNat s.maxDuty.toNat ≤ s.maxDuty.toNat := fracToDuty_le hf
    refine ⟨_, exec_setDutyFrac_of_open f h, ?_⟩
    rw [clampedWrite_in_range n (by omega) (by omega)]
    exact ⟨rfl, rfl⟩

end Sys2Proof.Machine
end

section
/-! The sequencer's registers: the writes of the step table and of the cursor configuration (R130, R131, R133), and the
six reads (R132, R134, R138, R139, R140, R143). -/

namespace Sys2Proof

/-! ## The offsets and data words of the cursor banks and of the step table (R65, R81, R85) -/

theorem curSeq_offset_toNat (k : CurNum) : (Reg.curSeq k).offset.toNat = 0x40 + 0x10 * k.val := by
  revert k; decide

theorem curPos_offset_toNat (k : CurNum) : (Reg.curPos k).offset.toNat = 0x44 + 0x10 * k.val := by
  revert k; decide

theorem curHold_offset_toNat (k : CurNum) : (Reg.curHold k).offset.toNat = 0x48 + 0x10 * k.val := by
  revert k; decide

theorem stepFrac_offset_toNat (i : StepIdx) : (Reg.stepFrac i).offset.toNat = 0x80 + 8 * i.val := by
  revert i; decide

theorem stepHold_offset_toNat (i : StepIdx) : (Reg.stepHold i).offset.toNat = 0x84 + 8 * i.val := by
  revert i; decide

/-- R85: CURk_SEQ's fields as a number. -/
theorem cursorData_toNat (base len start : BitVec 8) (chm : Set2) : (cursorData base len start chm).toNat =
    chm.toNat * 2 ^ 24 + start.toNat * 2 ^ 16 + len.toNat * 2 ^ 8 + base.toNat := by
  rw [cursorData, BitVec.toNat_setWidth_of_le (by decide), toNat_append_eq, toNat_append_eq, toNat_append_eq]
  omega

end Sys2Proof

namespace Sys2Proof.Machine

open Sys2Proof.Claims

/-! ## The writes (R130, R131, R133) -/

/-- Settles O28: both writes have their effect while the sequencer is Idle and are refused otherwise. -/
theorem stepTableWriteOutcome : Obligations.StepTableWriteOutcome := fun i _ _ =>
  ⟨encode_eq_wordOf rfl rfl (stepFrac_offset_toNat i) rfl, encode_eq_wordOf rfl rfl (stepHold_offset_toNat i) rfl,
    fun hlocked => ⟨congrArg _ (whileIdle_locked _ hlocked), congrArg _ (whileIdle_locked _ hlocked)⟩,
    fun hidle => ⟨congrArg _ (whileIdle_idle _ hidle), congrArg _ (whileIdle_idle _ hidle)⟩⟩

/-- Settles O29: the write has its effect while the sequencer is Idle and is refused otherwise. -/
theorem cursorWriteOutcome : Obligations.CursorWriteOutcome := fun k base len start chm _ =>
  ⟨encode_eq_wordOf rfl rfl (curSeq_offset_toNat k) (cursorData_toNat base len start chm),
    fun hlocked => congrArg _ (whileIdle_locked _ hlocked), fun hidle => congrArg _ (whileIdle_idle _ hidle)⟩

/-! ## The reads (R132, R134, R138, R139, R140, R143) -/

section
variable (s : State) (k : CurNum)

theorem seqStartWord_eq_ofNat :
    seqStartWord s = BitVec.ofNat 32 (s.running[1].toNat * 2 + s.running[0].toNat) := by
  refine setWidth_eq_ofNat ?_
  rw [toNat_append_eq, BitVec.toNat_ofBool, BitVec.toNat_ofBool]
  omega

theorem cursorWord_eq_ofNat : cursorWord s k = BitVec.ofNat 32 (s.curChm[k.val].toNat * 2 ^ 24
    + s.curStart[k.val].toNat * 2 ^ 16 + s.curLen[k.val].toNat * 2 ^ 8 + s.curBase[k.val].toNat) := by
  rw [← cursorData_toNat, BitVec.ofNat_toNat, BitVec.setWidth_eq, cursorWord]

theorem posWord_eq_ofNat :
    posWord s k = BitVec.ofNat 32 (s.running[k.val].toNat * 256 + s.idx[k.val].toNat) := by
  refine setWidth_eq_ofNat ?_
  rw [toNat_append_eq, BitVec.toNat_ofBool]
  omega

end

/-- A read that returns a 32-bit element as it is. -/
theorem answers_of_respond_word {i : Instr} {s : State} {w : Word} (hi : exec i s = .next (respond w s)) :
    Answers i s w.toNat := answers_of_respond hi ((BitVec.ofNat_toNat 32 w).trans (BitVec.setWidth_eq w)).symm

/-- R139: the positions and the running bits move in SEQ_START, MS_TICK and RESET only. -/
theorem exec_keeps_position {i : Instr} {s t : State} (h : exec i s = .next t) (hstart : ∀ sel, i ≠ .seqStart sel)
    (htick : i ≠ .msTick) (hreset : i ≠ .reset) : t.idx = s.idx ∧ t.running = s.running := by
  rcases exec_cases h with ⟨w, r, -, rfl⟩ | ⟨r, d, -, rfl⟩ | ⟨hz, req, e, -, -, -, -, -, rfl⟩ |
    ⟨hz, req, p, m, -, -, -, -, -, -, rfl⟩ | ⟨sel, e, hi, -⟩ | ⟨sel, hi, -⟩ | ⟨n, b, -, -, -, rfl⟩ |
    ⟨n, v, -, -, -, rfl⟩ | ⟨k, base, len, start, chm, -, -, rfl⟩ | ⟨e, w, -, -, rfl⟩ | ⟨e, w, -, -, rfl⟩ | ⟨-, rfl⟩ |
    ⟨hi, -⟩ | ⟨hi, -⟩
  · simp
  · simp
  · simp
  · simp
  · exact absurd hi (hstart sel)
  · exact absurd hi (hstart sel)
  · simp
  · simp
  · simp
  · simp
  · simp
  · simp
  · exact absurd hi htick
  · exact absurd hi hreset

/-- R140: the hold of a running cursor is at least 1 (R40 item 7), so it never reads 0. -/
theorem Invariants.holdRem_ne_zero {s : State} {k : CurNum} (hinv : Invariants s) (hk : s.running[k.val] = true) :
    s.holdRem[k.val] ≠ 0 := by
  have hpos := (hinv.cursors k hk).hold_pos
  intro hzero
  simp [hzero] at hpos

/-- Settles O14: each word is the number of its fields, or the element itself; the table is zero after reset. -/
theorem sequencerReadsReturnTheirWords : Obligations.SequencerReadsReturnTheirWords := by
  refine fun s k i => ⟨⟨encode_eq_wordOf rfl rfl rfl rfl, encode_eq_wordOf rfl rfl (curSeq_offset_toNat k) rfl,
      encode_eq_wordOf rfl rfl (curPos_offset_toNat k) rfl, encode_eq_wordOf rfl rfl (curHold_offset_toNat k) rfl,
      encode_eq_wordOf rfl rfl (stepFrac_offset_toNat i) rfl, encode_eq_wordOf rfl rfl (stepHold_offset_toNat i) rfl⟩,
    answers_of_respond rfl (seqStartWord_eq_ofNat s), answers_of_respond rfl (cursorWord_eq_ofNat s k),
    answers_of_respond rfl (posWord_eq_ofNat s k), answers_of_respond_word rfl, answers_of_respond_word rfl,
    answers_of_respond_word rfl, Invariants.holdRem_ne_zero, fun j t h hstart htick hreset => ?position,
    answers_of_respond rfl ?fracZero, answers_of_respond rfl ?holdZero⟩
  case position =>
    obtain ⟨hidx, hrunning⟩ := exec_keeps_position h hstart htick hreset
    simp only [posWord, hidx, hrunning]
  case fracZero => simp [State.reset]
  case holdZero => simp [State.reset]

end Sys2Proof.Machine
end

section
/-! Validation (R136): a cursor passes exactly when every check passes, and otherwise the answer is the one check that
fails first. -/

namespace Sys2Proof.Machine

open Sys2Proof.Claims

/-! ## The checks in the statements' words -/

/-- A set is within the allocated channels exactly when each of its members is allocated. -/
theorem and_not_eq_zero_iff (c a : Set2) :
    c &&& ~~~a = 0 ↔ ∀ n : Chan, c.getLsbD n.val = true → a.getLsbD n.val = true := by
  revert c a; decide

theorem channelsOk_iff (s : State) (k : CurNum) :
    ChannelsOk s k ↔ ¬ (s.curChm[k.val] = 0 ∨ s.curChm[k.val] &&& ~~~s.alloc ≠ 0) := by
  rw [ChannelsOk, ← and_not_eq_zero_iff, not_or, not_not]

theorem checkEntry_eq_none_iff (s : State) (k : CurNum) (i : Nat) : checkEntry s k i = none ↔ FracOk s i ∧ HoldOk s i :=
  checkEntry_eq_none s k i

theorem validateCursor_eq_none_iff (s : State) (k : CurNum) : validateCursor s k = none ↔ CursorValid s k := by
  simp only [validateCursor_eq_none, CursorValid, LenOk, RangeOk, StartOk, ChannelsOk, InSequence, and_imp,
    and_not_eq_zero_iff, checkEntry_eq_none_iff]

/-! ## The first failure -/

/-- The first success of a search over the table entries of a Sequence. -/
theorem findSome?_range'_eq_some {α : Type} {f : Nat → Option α} {base len i : Nat} {e : α} (hlo : base ≤ i)
    (hhi : i < base + len) (hbefore : ∀ j, base ≤ j → j < i → f j = none) (hi : f i = some e) :
    (List.range' base len).findSome? f = some e := by
  have hsplit : List.range' base len =
      List.range' base (i - base) ++ i :: List.range' (i + 1) (base + len - i - 1) := by
    rw [← List.range'_succ, show List.range' i _ = List.range' (base + (i - base)) _ by rw [Nat.add_sub_cancel' hlo],
      List.range'_append_1]
    congr 1
    omega
  refine List.findSome?_eq_some_iff.2 ⟨_, i, _, hsplit, hi, fun j hj => ?_⟩
  obtain ⟨hj1, hj2⟩ := List.mem_range'_1.1 hj
  exact hbefore j hj1 (by omega)

/-- Past the four configuration checks, validation of a cursor is the search of its entries. -/
theorem validateCursor_of_passesBefore {s : State} {k : CurNum} {i : Nat} {e : FatalError} (h : PassesBefore s k i)
    (hi : checkEntry s k i = some e) : validateCursor s k = some e := by
  obtain ⟨hlen, hrange, hstart, hchan, ⟨hlo, hhi⟩, hbefore⟩ := h
  have hsearch := findSome?_range'_eq_some (f := checkEntry s k) hlo hhi
    (fun j hj hji => (checkEntry_eq_none_iff s k j).2 (hbefore j ⟨hj, hji.trans hhi⟩ hji)) hi
  exact (if_neg hlen).trans ((if_neg (not_lt.2 hrange)).trans ((if_neg (not_le.2 hstart)).trans
    ((if_neg ((channelsOk_iff s k).1 hchan)).trans hsearch)))

/-- R136: the first failing check is validation's answer for its cursor. -/
theorem validateCursor_of_firstFailure {s : State} {e : FatalError} (h : FirstFailureOf s e) :
    validateCursor s e.cursor = some e := by
  cases e with
  | clkInvalid | freqUnsupported | dividerUnachievable => exact h.elim
  | seqEmpty k =>
    have hlen : s.curLen[k.val] = 0 := not_not.1 h
    exact if_pos hlen
  | seqRange k =>
    obtain ⟨hlen, hrange⟩ := h
    exact (if_neg hlen).trans (if_pos (not_le.1 hrange))
  | startRange k =>
    obtain ⟨hlen, hrange, hstart⟩ := h
    exact (if_neg hlen).trans ((if_neg (not_lt.2 hrange)).trans (if_pos (not_lt.1 hstart)))
  | channelSet k =>
    obtain ⟨hlen, hrange, hstart, hchan⟩ := h
    rw [channelsOk_iff, not_not] at hchan
    exact (if_neg hlen).trans ((if_neg (not_lt.2 hrange)).trans ((if_neg (not_le.2 hstart)).trans (if_pos hchan)))
  | fractionRange k i =>
    obtain ⟨hpass, hfrac⟩ := h
    exact validateCursor_of_passesBefore hpass (if_pos (not_le.1 hfrac))
  | holdZero k i =>
    obtain ⟨hpass, hfrac, hhold⟩ := h
    have hzero : tableHold s i = 0 := not_not.1 hhold
    exact validateCursor_of_passesBefore hpass ((if_neg (not_lt.2 hfrac)).trans (if_pos hzero))

/-- A cursor that is not valid has a first failing check; among the entries, it is at the least entry that fails. -/
theorem exists_firstFailure {s : State} {k : CurNum} (h : ¬ CursorValid s k) :
    ∃ e, e.cursor = k ∧ FirstFailureOf s e := by
  classical
  by_cases hlen : LenOk s k
  case neg => exact ⟨.seqEmpty k, rfl, hlen⟩
  by_cases hrange : RangeOk s k
  case neg => exact ⟨.seqRange k, rfl, hlen, hrange⟩
  by_cases hstart : StartOk s k
  case neg => exact ⟨.startRange k, rfl, hlen, hrange, hstart⟩
  by_cases hchan : ChannelsOk s k
  case neg => exact ⟨.channelSet k, rfl, hlen, hrange, hstart, hchan⟩
  have hentry : ∃ i, InSequence s k i ∧ ¬ (FracOk s i ∧ HoldOk s i) := by
    by_contra hall
    push Not at hall
    exact h ⟨hlen, hrange, hstart, hchan, fun i hi => hall i hi⟩
  obtain ⟨hin, hbad⟩ := Nat.find_spec hentry
  have hpass : PassesBefore s k (Nat.find hentry) := ⟨hlen, hrange, hstart, hchan, hin, fun j hj hlt =>
    not_not.1 fun hjbad => Nat.find_min hentry hlt ⟨hj, hjbad⟩⟩
  by_cases hfrac : FracOk s (Nat.find hentry)
  · exact ⟨.holdZero k _, rfl, hpass, hfrac, fun hhold => hbad ⟨hfrac, hhold⟩⟩
  · exact ⟨.fractionRange k _, rfl, hpass, hfrac⟩

/-- R136: validation of one cursor answers exactly its first failure. -/
theorem validateCursor_eq_some_iff (s : State) (k : CurNum) (e : FatalError) :
    validateCursor s k = some e ↔ e.cursor = k ∧ FirstFailureOf s e := by
  constructor
  · intro h
    have hbad : ¬ CursorValid s k := by
      rw [← validateCursor_eq_none_iff, h]
      exact Option.some_ne_none e
    obtain ⟨e', rfl, hfirst⟩ := exists_firstFailure hbad
    obtain rfl : e' = e := Option.some.inj ((validateCursor_of_firstFailure hfirst).symm.trans h)
    exact ⟨rfl, hfirst⟩
  · rintro ⟨rfl, hfirst⟩
    exact validateCursor_of_firstFailure hfirst

/-! ## The set of cursors -/

theorem validateSelected_eq_some_iff (s : State) (sel : Set2) (k : CurNum) (e : FatalError) :
    validateSelected s sel k = some e ↔ sel.getLsbD k.val = true ∧ e.cursor = k ∧ FirstFailureOf s e := by
  rw [validateSelected, ← validateCursor_eq_some_iff]
  cases hk : inSet sel k with
  | true => simp [show sel.getLsbD k.val = true from hk]
  | false => simp [show sel.getLsbD k.val = false from hk]

theorem validateSelected_eq_none_iff (s : State) (sel : Set2) (k : CurNum) :
    validateSelected s sel k = none ↔ (sel.getLsbD k.val = true → CursorValid s k) := by
  rw [validateSelected, ← validateCursor_eq_none_iff]
  cases hk : inSet sel k with
  | true => simp [show sel.getLsbD k.val = true from hk]
  | false => simp [show sel.getLsbD k.val = false from hk]

/-- Cursor 0's answer comes first, and cursor 1's counts only when cursor 0 has none. -/
theorem validate_eq_some_iff (s : State) (sel : Set2) (e : FatalError) : validate s sel = some e ↔
    validateSelected s sel 0 = some e ∨ (validateSelected s sel 0 = none ∧ validateSelected s sel 1 = some e) := by
  rcases validate_cases s sel with ⟨e', h0, h⟩ | ⟨h0, h⟩
  · simp [h0, h]
  · simp [h0, h]

theorem validate_eq_none_iff (s : State) (sel : Set2) :
    validate s sel = none ↔ ∀ k : CurNum, sel.getLsbD k.val = true → CursorValid s k := by
  simp only [validate_eq_none, validateCursor_eq_none_iff, inSet]

/-- Settles O31: validation of a cursor answers its first failure, and cursor 0's answer comes before cursor 1's. -/
theorem validationFindsFirstFailure : Obligations.ValidationFindsFirstFailure := by
  refine fun s sel => ⟨validate_eq_none_iff s sel, fun e => ?_⟩
  rw [validate_eq_some_iff, validateSelected_eq_none_iff, validateSelected_eq_some_iff, validateSelected_eq_some_iff]
  rcases Fin.exists_fin_two.1 ⟨e.cursor, rfl⟩ with hcur | hcur
  · simp [hcur, and_comm]
  · simp [hcur, and_comm, and_assoc]

end Sys2Proof.Machine
end

section
/-! SEQ_START (R135): its refusal, its failure, and everything that a successful start leaves. -/

namespace Sys2Proof.Machine

open Sys2Proof.Claims

/-! ## The outcomes -/

/-- R85: the set of cursors as a number. -/
theorem seqStartData_toNat (sel : Set2) : (seqStartData sel).toNat = sel.toNat :=
  BitVec.toNat_setWidth_of_le (by decide)

theorem exec_seqStart_refused {sel : Set2} {s : State}
    (h : s.drvState ≠ .configured ∨ s.seqState ≠ .idle ∨ sel = 0) : exec (.seqStart sel) s = .next (refused s) := by
  have hpre : ¬ (s.drvState = .configured ∧ s.seqState = .idle ∧ sel ≠ 0) := by tauto
  exact congrArg _ (if_neg hpre)

theorem exec_seqStart_invalid {sel : Set2} {s : State} {e : FatalError} (hdrv : s.drvState = .configured)
    (hidle : s.seqState = .idle) (hsel : sel ≠ 0) (he : validate s sel = some e) :
    exec (.seqStart sel) s = .next (stepInvalid e.code e.cursor (BitVec.ofNat 8 e.entry) s) := by
  rw [← raise_invalidStep (validate_some he)]
  simp only [exec, execSeqStart, hdrv, hidle, hsel, ne_eq, not_false_iff, and_self, if_true, tryStart, he]

/-! ## The start of one cursor -/

/-- What the start of a cursor needs to write a duty without a warning: the resolution is latched, and the fraction of
the cursor's first step is legal. -/
structure StartReady (s : State) (k : CurNum) : Prop where
  latch : s.seqMaxDuty = s.maxDuty
  frac : FracOk s (s.curBase[k.val].toNat + s.curStart[k.val].toNat)

/-- Cursor k placed at the start of its Sequence and set running (R135), before the first apply. -/
def placeCursor (k : CurNum) (s : State) : State :=
  { s with idx := s.idx.set k s.curStart[k.val], running := s.running.set k true }

/-- `s` with the five fields that a start writes taken from `t`. -/
def withStarted (s t : State) : State :=
  { s with idx := t.idx, running := t.running, holdRem := t.holdRem, dutyValue := t.dutyValue, log := t.log }

theorem withStarted_trans {s t u : State} (hst : t = withStarted s t) (htu : u = withStarted t u) :
    u = withStarted s u :=
  calc
    u = withStarted t u := htu
    _ = withStarted (withStarted s t) u := congrArg (withStarted · u) hst
    _ = withStarted s u := rfl

theorem entryOf_placeCursor (k : CurNum) (s : State) :
    entryOf (placeCursor k s) k = s.curBase[k.val].toNat + s.curStart[k.val].toNat := by
  simp [entryOf, placeCursor]

theorem startCursor_selected {sel : Set2} {k : CurNum} (h : inSet sel k = true) (s : State) :
    startCursor sel k s = reloadHold k (applyStep k (placeCursor k s)) := if_pos h

theorem startCursor_unselected {sel : Set2} {k : CurNum} (h : inSet sel k = false) (s : State) :
    startCursor sel k s = s := if_neg (Bool.eq_false_iff.1 h)

section
variable {s : State} {k : CurNum}

theorem currentDuty_placeCursor (h : StartReady s k) :
    currentDuty (placeCursor k s) k = stepDuty s k s.curStart[k.val].toNat := by
  simp only [currentDuty, currentFrac, entryOf_placeCursor, stepDuty, ← h.latch]
  rfl

/-- R113 law 4: the first step's duty is in range. -/
theorem StartReady.stepDuty_le (h : StartReady s k) : stepDuty s k s.curStart[k.val].toNat ≤ s.maxDuty.toNat :=
  fracToDuty_le h.frac

theorem StartReady.currentDuty_le (h : StartReady s k) :
    currentDuty (placeCursor k s) k ≤ (placeCursor k s).maxDuty.toNat :=
  currentDuty_placeCursor h ▸ h.stepDuty_le

/-- R110: a first step's duty is written as it is. -/
theorem StartReady.dutyOf_eq (h : StartReady s k) :
    dutyOf (currentDuty (placeCursor k s) k : Nat) s.maxDuty =
      BitVec.ofNat 17 (stepDuty s k s.curStart[k.val].toNat) := by
  have hle := h.stepDuty_le
  rw [currentDuty_placeCursor h, dutyOf_in_range (by omega) (by omega), BitVec.ofInt_natCast]

theorem StartReady.ofNat_stepDuty_toNat (h : StartReady s k) :
    (BitVec.ofNat 17 (stepDuty s k s.curStart[k.val].toNat)).toNat = stepDuty s k s.curStart[k.val].toNat := by
  have hle := h.stepDuty_le
  have hlt := s.maxDuty.isLt
  exact Nat.mod_eq_of_lt (by omega)

/-- R137: the record of the first apply is the STEP record of the start offset. -/
theorem StartReady.applyRecord_eq (h : StartReady s k) (n : Chan) :
    applyRecord k (placeCursor k s) n = stepRecord s k n s.curStart[k.val].toNat := by
  have hidx : (placeCursor k s).idx[k.val] = BitVec.ofNat 8 s.curStart[k.val].toNat := by simp [placeCursor]
  have hfrac : currentFrac (placeCursor k s) k = tableFrac s (s.curBase[k.val].toNat + s.curStart[k.val].toNat) := by
    rw [currentFrac, entryOf_placeCursor]
    rfl
  rw [applyRecord, stepRecord, hidx, hfrac, ← h.dutyOf_eq]
  rfl

end

/-- R135: the start of a cursor writes five fields and no other. -/
theorem startCursor_frame {sel : Set2} {k : CurNum} {s : State} (h : inSet sel k = true → StartReady s k) :
    startCursor sel k s = withStarted s (startCursor sel k s) := by
  cases hk : inSet sel k with
  | false =>
    rw [startCursor_unselected hk]
    rfl
  | true =>
    rw [startCursor_selected hk, applyStep_in_range k _ (h hk).currentDuty_le]
    rfl

theorem startCursor_idx (sel : Set2) (k j : CurNum) (s : State) :
    (startCursor sel k s).idx[j.val] = if inSet sel k ∧ j = k then s.curStart[j.val] else s.idx[j.val] := by
  cases hk : inSet sel k with
  | false => simp [startCursor_unselected hk]
  | true =>
    by_cases hj : j = k
    · simp [startCursor_selected hk, placeCursor, hj]
    · simp [startCursor_selected hk, placeCursor, hj, Vector.getElem_set_ne, Fin.val_ne_of_ne (Ne.symm hj)]

theorem startCursor_holdRem (sel : Set2) (k j : CurNum) (s : State) :
    (startCursor sel k s).holdRem[j.val] =
      if inSet sel k ∧ j = k then tableHold s (s.curBase[j.val].toNat + s.curStart[j.val].toNat)
      else s.holdRem[j.val] := by
  cases hk : inSet sel k with
  | false => simp [startCursor_unselected hk]
  | true =>
    have hentry : entryOf (applyStep k (placeCursor k s)) k = s.curBase[k.val].toNat + s.curStart[k.val].toNat := by
      rw [← entryOf_placeCursor]
      simp [entryOf]
    have htable (i : Nat) : tableHold (applyStep k (placeCursor k s)) i = tableHold s i :=
      tableHold_congr (applyStep_stepHold _ k) i
    by_cases hj : j = k
    · simp [startCursor_selected hk, hj, hentry, htable]
    · simp [startCursor_selected hk, hj, placeCursor, Vector.getElem_set_ne, Fin.val_ne_of_ne (Ne.symm hj)]

theorem startCursor_dutyValue {sel : Set2} {k : CurNum} {s : State} (h : inSet sel k = true → StartReady s k)
    (n : Chan) : (startCursor sel k s).dutyValue[n.val].toNat =
      if inSet sel k ∧ s.curChm[k.val].getLsbD n.val then stepDuty s k s.curStart[k.val].toNat
      else s.dutyValue[n.val].toNat := by
  cases hk : inSet sel k with
  | false => simp [startCursor_unselected hk]
  | true =>
    rw [startCursor_selected hk, reloadHold_dutyValue, applyStep_dutyValue]
    cases hn : s.curChm[k.val].getLsbD n.val with
    | false => simp [placeCursor, inSet, hn]
    | true =>
      have hset : inSet (placeCursor k s).curChm[k.val] n = true := hn
      rw [if_pos hset, if_pos ⟨rfl, rfl⟩, ← (h hk).ofNat_stepDuty_toNat, ← (h hk).dutyOf_eq]
      rfl

theorem startCursor_log {sel : Set2} {k : CurNum} {s : State} (h : inSet sel k = true → StartReady s k) :
    (startCursor sel k s).log = s.log ++ (if inSet sel k then stepRecords s k s.curStart[k.val].toNat else []) := by
  cases hk : inSet sel k with
  | false => simp [startCursor_unselected hk]
  | true =>
    rw [startCursor_selected hk, applyStep_in_range k _ (h hk).currentDuty_le, (h hk).applyRecord_eq,
      (h hk).applyRecord_eq]
    rfl

/-! ## What the start of a cursor leaves for the next one: the table, the Sequences and the latch -/

section
variable (sel : Set2) (c : CurNum) (s : State)

@[simp] theorem tableFrac_startCursor (i : Nat) : tableFrac (startCursor sel c s) i = tableFrac s i :=
  tableFrac_congr (startCursor_stepFrac s sel c) i

@[simp] theorem tableHold_startCursor (i : Nat) : tableHold (startCursor sel c s) i = tableHold s i :=
  tableHold_congr (startCursor_stepHold s sel c) i

@[simp] theorem stepDuty_startCursor (k : CurNum) (j : Nat) :
    stepDuty (startCursor sel c s) k j = stepDuty s k j := by
  simp [stepDuty]

@[simp] theorem stepRecords_startCursor (k : CurNum) (j : Nat) :
    stepRecords (startCursor sel c s) k j = stepRecords s k j := by
  simp [stepRecords, stepRecord]

theorem StartReady.startCursor {s : State} {k : CurNum} (h : StartReady s k) :
    StartReady (startCursor sel c s) k :=
  ⟨by simp [h.latch], by simpa [FracOk] using h.frac⟩

end

/-! ## The start of the selected cursors -/

/-- The state in which the start begins: the resolution latched, the sequencer Running (R135). -/
def latched (s : State) : State := { s with seqMaxDuty := s.maxDuty, seqState := .running }

theorem startSequencer_eq (sel : Set2) (s : State) :
    startSequencer sel s = startCursor sel 1 (startCursor sel 0 (latched s)) := rfl

/-- R136: the start offset of a valid cursor lies in its Sequence, so its fraction is legal. -/
theorem startReady_of_cursorValid {s : State} {k : CurNum} (h : CursorValid s k) : StartReady (latched s) k := by
  obtain ⟨-, -, hstart, -, hentries⟩ := h
  obtain ⟨hfrac, -⟩ := hentries _ ⟨Nat.le_add_right _ _, Nat.add_lt_add_left hstart _⟩
  exact ⟨rfl, hfrac⟩

section
variable {sel : Set2} {s : State} (hval : validate s sel = none)
include hval

theorem startReady_first (hk : inSet sel 0 = true) : StartReady (latched s) 0 :=
  startReady_of_cursorValid ((validate_eq_none_iff s sel).1 hval 0 hk)

theorem startReady_second (hk : inSet sel 1 = true) : StartReady (startCursor sel 0 (latched s)) 1 :=
  (startReady_of_cursorValid ((validate_eq_none_iff s sel).1 hval 1 hk)).startCursor sel 0

/-- R135: apart from the latch and the state, a start writes five fields and no other. -/
theorem startSequencer_frame : startSequencer sel s = withStarted (latched s) (startSequencer sel s) :=
  withStarted_trans (startCursor_frame (startReady_first hval)) (startCursor_frame (startReady_second hval))

/-- R135: cursor 1 writes last, so its duty is left on a shared channel. -/
theorem startSequencer_dutyValue (n : Chan) : (startSequencer sel s).dutyValue[n.val].toNat =
    if sel.getLsbD 1 ∧ s.curChm[1].getLsbD n.val then stepDuty s 1 s.curStart[1].toNat
    else if sel.getLsbD 0 ∧ s.curChm[0].getLsbD n.val then stepDuty s 0 s.curStart[0].toNat
    else s.dutyValue[n.val].toNat := by
  rw [startSequencer_eq, startCursor_dutyValue (startReady_second hval), startCursor_dutyValue (startReady_first hval),
    stepDuty_startCursor, startCursor_curChm, startCursor_curStart]
  rfl

theorem startSequencer_log : (startSequencer sel s).log =
    s.log ++ (if sel.getLsbD 0 then stepRecords s 0 s.curStart[0].toNat else [])
      ++ (if sel.getLsbD 1 then stepRecords s 1 s.curStart[1].toNat else []) := by
  rw [startSequencer_eq, startCursor_log (startReady_second hval), startCursor_log (startReady_first hval),
    stepRecords_startCursor, startCursor_curStart]
  rfl

end

theorem startSequencer_idx (sel : Set2) (k : CurNum) (s : State) : (startSequencer sel s).idx[k.val] =
    if inSet sel k then s.curStart[k.val] else s.idx[k.val] := by
  rw [startSequencer_eq, startCursor_idx, startCursor_idx, startCursor_curStart]
  rcases Fin.exists_fin_two.1 ⟨k, rfl⟩ with rfl | rfl
  · simp [latched]
  · simp [latched]

theorem startSequencer_holdRem (sel : Set2) (k : CurNum) (s : State) : (startSequencer sel s).holdRem[k.val] =
    if inSet sel k then tableHold s (s.curBase[k.val].toNat + s.curStart[k.val].toNat) else s.holdRem[k.val] := by
  have htable (i : Nat) : tableHold (latched s) i = tableHold s i := rfl
  rw [startSequencer_eq, startCursor_holdRem, startCursor_holdRem, tableHold_startCursor, htable, htable,
    startCursor_curBase, startCursor_curStart]
  rcases Fin.exists_fin_two.1 ⟨k, rfl⟩ with rfl | rfl
  · simp [latched]
  · simp [latched]

/-- Settles O32: a start is the latch and the two cursors' starts, each of which leaves its own cursor's position, hold,
duties and records. -/
theorem seqStartOutcome : Obligations.SeqStartOutcome := by
  refine fun sel s => ⟨encode_eq_wordOf rfl rfl rfl (seqStartData_toNat sel), exec_seqStart_refused,
    fun hdrv hidle hsel => ⟨fun e he => exec_seqStart_invalid hdrv hidle hsel he, fun hval =>
      ⟨ack (startSequencer sel s), exec_seqStart_valid hdrv hidle hsel hval, congrArg ack (startSequencer_frame hval),
        fun k hk => ⟨?idx, ?running, ?hold⟩, fun k hk => ⟨?idxKept, ?runningKept, ?holdKept⟩,
        startSequencer_dutyValue hval, startSequencer_log hval⟩⟩⟩
  case idx => exact (startSequencer_idx sel k s).trans (if_pos hk)
  case running => simp [startSequencer_running, inSet, hk]
  case hold => exact (startSequencer_holdRem sel k s).trans (if_pos hk)
  case idxKept => simp [startSequencer_idx, inSet, hk]
  case runningKept => simp [startSequencer_running, inSet, hk]
  case holdKept => simp [startSequencer_holdRem, inSet, hk]

end Sys2Proof.Machine
end

section
/-! TIM_TICK (R150 to R153): the four things it can do, each as a full equation. -/

namespace Sys2Proof.Machine

section
variable {s : State}

theorem exec_timTick_unconfigured (h : s.drvState ≠ .configured) : exec .timTick s = .next s :=
  congrArg _ (if_neg h)

theorem exec_timTick_configured (h : s.drvState = .configured) : exec .timTick s = .next (timerTick s) :=
  congrArg _ (if_pos h)

/-- R151: below its last value the prescaler counts. -/
theorem timerTick_prescales (h : s.pscCnt.toNat + 1 < s.pscDiv.toNat) :
    timerTick s = { s with pscCnt := s.pscCnt + 1 } := if_pos h

/-- R151: at its last value the prescaler starts again and the counter ticks. -/
theorem timerTick_ticks (h : ¬ s.pscCnt.toNat + 1 < s.pscDiv.toNat) :
    timerTick s = counterStep { s with pscCnt := 0 } := if_neg h

/-- R152: below its last value the counter counts. -/
theorem counterStep_counts (h : s.cnt.toNat + 1 < s.maxDuty.toNat) :
    counterStep s = { s with cnt := s.cnt + 1 } := if_pos h

/-- R152, R153: at its last value the counter wraps, and a frame starts. -/
theorem counterStep_wraps (h : ¬ s.cnt.toNat + 1 < s.maxDuty.toNat) : counterStep s = frameStart s := if_neg h

end

theorem ofNat_toNat_add_one {w : Nat} (x : BitVec w) : BitVec.ofNat w (x.toNat + 1) = x + 1 := by
  simp [BitVec.ofNat_add]

/-- Settles O34: the integer guards of R151 and R152 are those of the prescaler and of the counter. -/
theorem timTickOutcome : Obligations.TimTickOutcome := by
  refine fun s _ _ => ⟨exec_timTick_unconfigured, fun hdrv hpsc => ?prescale, fun hdrv hpsc hcnt => ?count,
    fun hdrv hpsc hcnt => ?wrap⟩
  case prescale => rw [exec_timTick_configured hdrv, timerTick_prescales (by omega), ofNat_toNat_add_one]
  case count =>
    rw [exec_timTick_configured hdrv, timerTick_ticks (by omega), counterStep_counts (by simp only; omega),
      ofNat_toNat_add_one]
  case wrap =>
    rw [exec_timTick_configured hdrv, timerTick_ticks (by omega), counterStep_wraps (by simp only; omega)]
    rfl

end Sys2Proof.Machine
end

section
/-! MS_TICK (R156 to R160): what one millisecond does to one cursor, and the two cursors' milliseconds in a row. -/

namespace Sys2Proof.Machine

open Sys2Proof.Claims

/-! ## What R40 item 7 says about a running cursor's next step -/

section
variable {s : State} {k : CurNum}

theorem CursorOk.nextIdx_lt (h : CursorOk s k) : nextIdx s k < s.curLen[k.val].toNat :=
  Nat.mod_lt _ (Nat.zero_lt_of_lt h.idx_lt)

/-- R159: the next offset, which the model holds in a register, is the statements' number. -/
theorem CursorOk.nextOffset_toNat (h : CursorOk s k) : (nextOffset s k).toNat = nextIdx s k :=
  Machine.nextOffset_toNat s k (Nat.zero_lt_of_lt h.idx_lt)

theorem CursorOk.fracOk (h : CursorOk s k) {j : Nat} (hj : j < s.curLen[k.val].toNat) :
    FracOk s (s.curBase[k.val].toNat + j) := by
  have hlt : s.curBase[k.val].toNat + j < 16 := Nat.lt_of_lt_of_le (Nat.add_lt_add_left hj _) h.range_le
  obtain ⟨hfrac, -⟩ := h.steps ⟨_, hlt⟩ (Nat.le_add_right _ _) (Nat.add_lt_add_left hj _)
  rw [FracOk, tableFrac_lt s hlt]
  exact hfrac

/-- R113 law 4: the duty of the next step is in range. -/
theorem CursorOk.stepDuty_le (h : CursorOk s k) : stepDuty s k (nextIdx s k) ≤ s.maxDuty.toNat :=
  fracToDuty_le (h.fracOk h.nextIdx_lt)

theorem CursorOk.ofNat_stepDuty_toNat (h : CursorOk s k) :
    (BitVec.ofNat 17 (stepDuty s k (nextIdx s k))).toNat = stepDuty s k (nextIdx s k) :=
  Nat.mod_eq_of_lt (Nat.lt_of_le_of_lt h.stepDuty_le s.maxDuty.isLt)

end

/-! ## The cases of a cursor's millisecond -/

/-- `Due` as a Boolean. -/
def isDue (s : State) (k : CurNum) : Bool := s.running[k.val] && s.holdRem[k.val] == 1

theorem isDue_iff (s : State) (k : CurNum) : isDue s k = true ↔ Due s k := by
  simp [isDue, Due]

theorem isDue_eq_false_iff (s : State) (k : CurNum) : isDue s k = false ↔ ¬ Due s k := by
  rw [← isDue_iff, Bool.not_eq_true]

theorem isDue_ne_true_of_hold {s : State} {k : CurNum} (h : s.holdRem[k.val] ≠ 1) : ¬ isDue s k = true := by
  rw [isDue_iff]
  exact fun ⟨_, hhold⟩ => h hhold

/-- Cursor k with its hold ended and its position moved on (R158, R159), before the apply. -/
def moveCursor (k : CurNum) (s : State) : State := { decHold k s with idx := s.idx.set k (nextOffset s k) }

section
variable {s : State} {k : CurNum}

theorem cursorTick_stopped (h : s.running[k.val] = false) : cursorTick k s = s := if_neg (Bool.eq_false_iff.1 h)

theorem decHold_holdRem_eq_zero : (decHold k s).holdRem[k.val] = 0 ↔ s.holdRem[k.val] = 1 := by
  rw [decHold_holdRem, Vector.getElem_set_self, sub_eq_zero]

/-- R158: a running cursor whose hold does not end only loses the millisecond. -/
theorem cursorTick_waits (hrun : s.running[k.val] = true) (hhold : s.holdRem[k.val] ≠ 1) :
    cursorTick k s = decHold k s :=
  (if_pos hrun).trans (if_neg (mt decHold_holdRem_eq_zero.1 hhold))

/-- R159, R160: a cursor whose hold ends moves on, applies the new step and reloads. -/
theorem cursorTick_due (h : Due s k) : cursorTick k s = reloadHold k (applyStep k (moveCursor k s)) := by
  obtain ⟨hrun, hhold⟩ := h
  exact (if_pos hrun).trans (if_pos (decHold_holdRem_eq_zero.2 hhold))

/-- R157, R158: a cursor that does not advance writes its hold at most. -/
theorem cursorTick_not_due (h : ¬ Due s k) : cursorTick k s = { s with holdRem := (cursorTick k s).holdRem } := by
  cases hrun : s.running[k.val] with
  | false => rw [cursorTick_stopped hrun]
  | true =>
    rw [cursorTick_waits hrun fun hhold => h ⟨hrun, hhold⟩]
    rfl

end

/-! ## The apply of the next step -/

section
variable {s : State} {k : CurNum}

theorem entryOf_moveCursor (h : CursorOk s k) :
    entryOf (moveCursor k s) k = s.curBase[k.val].toNat + nextIdx s k := by
  simp [entryOf, moveCursor, h.nextOffset_toNat]

theorem currentFrac_moveCursor (h : CursorOk s k) :
    currentFrac (moveCursor k s) k = tableFrac s (s.curBase[k.val].toNat + nextIdx s k) := by
  rw [currentFrac, entryOf_moveCursor h]
  rfl

theorem currentDuty_moveCursor (h : CursorOk s k) : currentDuty (moveCursor k s) k = stepDuty s k (nextIdx s k) := by
  rw [currentDuty, currentFrac_moveCursor h, stepDuty, ← h.latch]
  rfl

theorem currentDuty_moveCursor_le (h : CursorOk s k) :
    currentDuty (moveCursor k s) k ≤ (moveCursor k s).maxDuty.toNat :=
  currentDuty_moveCursor h ▸ h.stepDuty_le

/-- R110: the next step's duty is written as it is. -/
theorem dutyOf_moveCursor (h : CursorOk s k) :
    dutyOf (currentDuty (moveCursor k s) k : Nat) (moveCursor k s).maxDuty =
      BitVec.ofNat 17 (stepDuty s k (nextIdx s k)) := by
  have hle : currentDuty (moveCursor k s) k ≤ (moveCursor k s).maxDuty.toNat := currentDuty_moveCursor_le h
  rw [dutyOf_in_range (by omega) (by omega), BitVec.ofInt_natCast, currentDuty_moveCursor h]

/-- R137: the record of the apply is the STEP record of the next offset. -/
theorem applyRecord_moveCursor (h : CursorOk s k) (n : Chan) :
    applyRecord k (moveCursor k s) n = stepRecord s k n (nextIdx s k) := by
  have hidx : (moveCursor k s).idx[k.val] = BitVec.ofNat 8 (nextIdx s k) := by
    simp [moveCursor, ← h.nextOffset_toNat]
  rw [applyRecord, stepRecord, hidx, currentFrac_moveCursor h, dutyOf_moveCursor h]

end

/-! ## What a cursor's millisecond leaves -/

section
variable (k j : CurNum) (s : State)

/-- R159: the cursor that is due moves on, and no other position changes. -/
theorem cursorTick_idx :
    (cursorTick k s).idx[j.val] = if isDue s k ∧ j = k then nextOffset s j else s.idx[j.val] := by
  cases hk : isDue s k with
  | false =>
    rw [cursorTick_not_due ((isDue_eq_false_iff s k).1 hk)]
    simp
  | true =>
    rw [cursorTick_due ((isDue_iff s k).1 hk)]
    by_cases hj : j = k
    · simp [moveCursor, hj]
    · simp [moveCursor, hj, Vector.getElem_set_ne, Fin.val_ne_of_ne (Ne.symm hj)]

/-- R158, R160: the cursor that is due reloads, one that runs on loses a millisecond, and no other hold changes. -/
theorem cursorTick_holdRem :
    (cursorTick k s).holdRem[j.val] =
      if isDue s k ∧ j = k then tableHold s (s.curBase[j.val].toNat + (nextOffset s j).toNat)
      else if s.running[k.val] ∧ j = k then s.holdRem[j.val] - 1 else s.holdRem[j.val] := by
  cases hk : isDue s k with
  | true =>
    have hentry : entryOf (applyStep k (moveCursor k s)) k = s.curBase[k.val].toNat + (nextOffset s k).toNat := by
      simp [entryOf, moveCursor]
    have htable (i : Nat) : tableHold (applyStep k (moveCursor k s)) i = tableHold s i :=
      tableHold_congr (applyStep_stepHold _ k) i
    rw [cursorTick_due ((isDue_iff s k).1 hk), reloadHold_holdRem, hentry, htable]
    by_cases hj : j = k
    · simp [hj]
    · simp [hj, moveCursor, Vector.getElem_set_ne, Fin.val_ne_of_ne (Ne.symm hj)]
  | false =>
    cases hrun : s.running[k.val] with
    | false => simp [cursorTick_stopped hrun]
    | true =>
      have hdue : ¬ Due s k := (isDue_eq_false_iff s k).1 hk
      rw [cursorTick_waits hrun fun hhold => hdue ⟨hrun, hhold⟩]
      by_cases hj : j = k
      · simp [hj]
      · simp [hj, Vector.getElem_set_ne, Fin.val_ne_of_ne (Ne.symm hj)]

end

/-- `s` with the four fields that a millisecond writes taken from `t`. -/
def withTicked (s t : State) : State :=
  { s with idx := t.idx, holdRem := t.holdRem, dutyValue := t.dutyValue, log := t.log }

theorem withTicked_trans {s t u : State} (hst : t = withTicked s t) (htu : u = withTicked t u) :
    u = withTicked s u :=
  calc
    u = withTicked t u := htu
    _ = withTicked (withTicked s t) u := congrArg (withTicked · u) hst
    _ = withTicked s u := rfl

section
variable {s : State} {k : CurNum} (h : Due s k → CursorOk s k)
include h

theorem cursorTick_frame : cursorTick k s = withTicked s (cursorTick k s) := by
  by_cases hk : Due s k
  · rw [cursorTick_due hk, applyStep_in_range k _ (currentDuty_moveCursor_le (h hk))]
    rfl
  · rw [cursorTick_not_due hk]
    rfl

theorem cursorTick_dutyValue (n : Chan) : (cursorTick k s).dutyValue[n.val].toNat =
    if isDue s k ∧ s.curChm[k.val].getLsbD n.val then stepDuty s k (nextIdx s k) else s.dutyValue[n.val].toNat := by
  cases hk : isDue s k with
  | false =>
    rw [cursorTick_not_due ((isDue_eq_false_iff s k).1 hk)]
    simp
  | true =>
    have hdue : Due s k := (isDue_iff s k).1 hk
    rw [cursorTick_due hdue, reloadHold_dutyValue, applyStep_dutyValue, dutyOf_moveCursor (h hdue)]
    cases hn : s.curChm[k.val].getLsbD n.val with
    | false => simp [moveCursor, inSet, hn]
    | true =>
      have hset : inSet (moveCursor k s).curChm[k.val] n = true := hn
      rw [if_pos hset, if_pos ⟨rfl, rfl⟩, (h hdue).ofNat_stepDuty_toNat]

theorem cursorTick_log :
    (cursorTick k s).log = s.log ++ if isDue s k then stepRecords s k (nextIdx s k) else [] := by
  cases hk : isDue s k with
  | false =>
    rw [cursorTick_not_due ((isDue_eq_false_iff s k).1 hk)]
    simp
  | true =>
    have hdue : Due s k := (isDue_iff s k).1 hk
    have hok : CursorOk s k := h hdue
    rw [cursorTick_due hdue, applyStep_in_range k _ (currentDuty_moveCursor_le hok), applyRecord_moveCursor hok,
      applyRecord_moveCursor hok]
    rfl

end

/-! ## What a cursor's millisecond leaves for the other one -/

section
variable (c : CurNum) (s : State)

@[simp] theorem tableFrac_cursorTick (i : Nat) : tableFrac (cursorTick c s) i = tableFrac s i :=
  tableFrac_congr (cursorTick_stepFrac s c) i

@[simp] theorem tableHold_cursorTick (i : Nat) : tableHold (cursorTick c s) i = tableHold s i :=
  tableHold_congr (cursorTick_stepHold s c) i

@[simp] theorem stepDuty_cursorTick (k : CurNum) (j : Nat) : stepDuty (cursorTick c s) k j = stepDuty s k j := by
  simp [stepDuty]

@[simp] theorem stepRecords_cursorTick (k : CurNum) (j : Nat) :
    stepRecords (cursorTick c s) k j = stepRecords s k j := by
  simp [stepRecords, stepRecord]

section
variable {c} {k : CurNum} (hk : k ≠ c)
include hk

theorem cursorTick_idx_other : (cursorTick c s).idx[k.val] = s.idx[k.val] := by
  simp [cursorTick_idx, hk]

theorem cursorTick_holdRem_other : (cursorTick c s).holdRem[k.val] = s.holdRem[k.val] := by
  simp [cursorTick_holdRem, hk]

theorem isDue_cursorTick_other : isDue (cursorTick c s) k = isDue s k := by
  simp [isDue, cursorTick_holdRem_other s hk]

theorem nextIdx_cursorTick_other : nextIdx (cursorTick c s) k = nextIdx s k := by
  simp [nextIdx, cursorTick_idx_other s hk]

theorem nextOffset_cursorTick_other : nextOffset (cursorTick c s) k = nextOffset s k := by
  simp [nextOffset, cursorTick_idx_other s hk]

theorem CursorOk.cursorTick_other {s : State} (h : CursorOk s k) : CursorOk (cursorTick c s) k where
  seq_running := by simpa using h.seq_running
  idx_lt := by simpa [cursorTick_idx_other s hk] using h.idx_lt
  range_le := by simpa using h.range_le
  hold_pos := by simpa [cursorTick_holdRem_other s hk] using h.hold_pos
  latch := by simpa using h.latch
  steps := by simpa using h.steps

end
end

/-! ## The millisecond of the two cursors -/

theorem exec_msTick_stopped {s : State} (h : s.seqState ≠ .running) : exec .msTick s = .next s :=
  congrArg _ (if_neg h)

/-- R157: cursor 0 completely, then cursor 1. -/
theorem exec_msTick_running {s : State} (h : s.seqState = .running) :
    exec .msTick s = .next (cursorTick 1 (cursorTick 0 s)) := congrArg _ (if_pos h)

section
variable (s : State) (k : CurNum)

theorem cursorTicks_idx :
    (cursorTick 1 (cursorTick 0 s)).idx[k.val] = if isDue s k then nextOffset s k else s.idx[k.val] := by
  rcases Fin.exists_fin_two.1 ⟨k, rfl⟩ with rfl | rfl
  · rw [cursorTick_idx_other _ zero_ne_one, cursorTick_idx]
    simp
  · rw [cursorTick_idx, isDue_cursorTick_other s one_ne_zero, nextOffset_cursorTick_other s one_ne_zero,
      cursorTick_idx_other s one_ne_zero]
    simp

theorem cursorTicks_holdRem : (cursorTick 1 (cursorTick 0 s)).holdRem[k.val] =
    if isDue s k then tableHold s (s.curBase[k.val].toNat + (nextOffset s k).toNat)
    else if s.running[k.val] then s.holdRem[k.val] - 1 else s.holdRem[k.val] := by
  rcases Fin.exists_fin_two.1 ⟨k, rfl⟩ with rfl | rfl
  · rw [cursorTick_holdRem_other _ zero_ne_one, cursorTick_holdRem]
    simp
  · rw [cursorTick_holdRem, isDue_cursorTick_other s one_ne_zero, nextOffset_cursorTick_other s one_ne_zero,
      cursorTick_holdRem_other s one_ne_zero]
    simp

end

section
variable {s : State} (hinv : Invariants s)
include hinv

theorem Invariants.cursorOk_of_due {k : CurNum} (h : Due s k) : CursorOk s k := hinv.cursors k h.1

/-- R40 item 7 still holds for cursor 1 after cursor 0's part. -/
theorem Invariants.second_cursorOk (h : Due (cursorTick 0 s) 1) : CursorOk (cursorTick 0 s) 1 := by
  have hdue : Due s 1 := by rwa [← isDue_iff, isDue_cursorTick_other s one_ne_zero, isDue_iff] at h
  exact (hinv.cursorOk_of_due hdue).cursorTick_other one_ne_zero

theorem cursorTicks_frame :
    cursorTick 1 (cursorTick 0 s) = withTicked s (cursorTick 1 (cursorTick 0 s)) :=
  withTicked_trans (cursorTick_frame hinv.cursorOk_of_due) (cursorTick_frame hinv.second_cursorOk)

/-- R157: cursor 1 writes last, so its duty is left on a shared channel. -/
theorem cursorTicks_dutyValue (n : Chan) : (cursorTick 1 (cursorTick 0 s)).dutyValue[n.val].toNat =
    if isDue s 1 ∧ s.curChm[1].getLsbD n.val then stepDuty s 1 (nextIdx s 1)
    else if isDue s 0 ∧ s.curChm[0].getLsbD n.val then stepDuty s 0 (nextIdx s 0)
    else s.dutyValue[n.val].toNat := by
  rw [cursorTick_dutyValue hinv.second_cursorOk, cursorTick_dutyValue hinv.cursorOk_of_due,
    isDue_cursorTick_other s one_ne_zero, nextIdx_cursorTick_other s one_ne_zero, stepDuty_cursorTick,
    cursorTick_curChm]
  rfl

theorem cursorTicks_log : (cursorTick 1 (cursorTick 0 s)).log =
    s.log ++ (if isDue s 0 then stepRecords s 0 (nextIdx s 0) else [])
      ++ (if isDue s 1 then stepRecords s 1 (nextIdx s 1) else []) := by
  rw [cursorTick_log hinv.second_cursorOk, cursorTick_log hinv.cursorOk_of_due, isDue_cursorTick_other s one_ne_zero,
    nextIdx_cursorTick_other s one_ne_zero, stepRecords_cursorTick]

end

/-- R158: from a hold of at least 1, the millisecond is taken without wrap. -/
theorem CursorOk.holdRem_sub_one {s : State} {k : CurNum} (h : CursorOk s k) :
    (s.holdRem[k.val] - 1).toNat + 1 = s.holdRem[k.val].toNat := by
  have hpos : 1 ≤ s.holdRem[k.val].toNat := h.hold_pos
  bv_omega

/-- Settles O38: MS_TICK is the two cursors' milliseconds in a row, each of which leaves its own cursor's position,
hold, duties and records. -/
theorem msTickOutcome : Obligations.MsTickOutcome := by
  refine fun s hinv => ⟨exec_msTick_stopped, fun hseq => ⟨_, exec_msTick_running hseq, cursorTicks_frame hinv,
    fun k hk => ⟨?idxStopped, ?holdStopped⟩, fun k hk hhold => ⟨?idxWaits, ?holdWaits⟩,
    fun k hdue => ⟨?idxDue, ?holdDue⟩, fun n => ⟨fun h1 => ?second, fun h1 h0 => ?first, fun h1 h0 => ?neither⟩,
    _, _, cursorTicks_log hinv, ?records0, ?none0, ?records1, ?none1⟩⟩
  case idxStopped => simp [cursorTicks_idx, isDue, hk]
  case holdStopped => simp [cursorTicks_holdRem, isDue, hk]
  case idxWaits => rw [cursorTicks_idx, if_neg (isDue_ne_true_of_hold hhold)]
  case holdWaits =>
    rw [cursorTicks_holdRem, if_neg (isDue_ne_true_of_hold hhold), if_pos hk, (hinv.cursors k hk).holdRem_sub_one]
  case idxDue =>
    rw [cursorTicks_idx, if_pos ((isDue_iff s k).2 hdue), (hinv.cursorOk_of_due hdue).nextOffset_toNat]
  case holdDue =>
    rw [cursorTicks_holdRem, if_pos ((isDue_iff s k).2 hdue), (hinv.cursorOk_of_due hdue).nextOffset_toNat,
      stepHoldOf]
  case second =>
    rw [← isDue_iff] at h1
    rw [cursorTicks_dutyValue hinv, if_pos h1]
  case first =>
    rw [← isDue_iff] at h1 h0
    rw [cursorTicks_dutyValue hinv, if_neg h1, if_pos h0]
  case neither =>
    rw [← isDue_iff] at h1 h0
    apply BitVec.eq_of_toNat_eq
    rw [cursorTicks_dutyValue hinv, if_neg h1, if_neg h0]
  case records0 => exact fun h => if_pos ((isDue_iff s 0).2 h)
  case none0 => exact fun h => if_neg (mt (isDue_iff s 0).1 h)
  case records1 => exact fun h => if_pos ((isDue_iff s 1).2 h)
  case none1 => exact fun h => if_neg (mt (isDue_iff s 1).1 h)

end Sys2Proof.Machine
end

section
/-! The exceptions of 60_exceptions.md: which transactions are refused (R175), that every event completes (R187), and that
each fatal error is final for the part of the block it ends (R172, R173). -/

namespace Sys2Proof

/-! ## What a decoded operation keeps of its word (R80, R87) -/

theorem writeOp_transaction {r : Reg} {d : Word} {i : Instr} (h : writeOp r d = .ok i) :
    ∃ d', i.transaction = some (true, r, d') := by
  cases r with
  | config | seqStart | chDuty n | chDutyFrac n | curSeq k | stepFrac e | stepHold e =>
    cases h
    exact ⟨_, rfl⟩
  | chEn n =>
    cases h
    cases d.getLsbD 0 with
    | true => exact ⟨_, rfl⟩
    | false => exact ⟨_, rfl⟩
  | maxDuty | status | fault | faultInfo | warn | pscDiv | curPos k | curHold k => cases h

theorem readOp_transaction {r : Reg} {i : Instr} (h : readOp r = .ok i) : i.transaction = some (false, r, 0) := by
  cases r with
  | config | maxDuty | status | fault | faultInfo | warn | pscDiv | seqStart | chEn n | chDuty n
  | curSeq k | curPos k | curHold k | stepFrac e | stepHold e =>
    cases h
    rfl
  | chDutyFrac n => cases h

/-- A transaction word never selects an event: its operation is a host operation of the word's direction and register. -/
theorem decode_transaction {t : BusWord} {i : Instr} (h : decode t = .ok i) :
    ∃ r d, r.offset = busAddr t ∧ i.transaction = some (busWe t, r, d) := by
  unfold decode decodeFields at h
  cases hreg : regAt (busAddr t) with
  | error e => simp [hreg] at h
  | ok r =>
    cases hwe : busWe t with
    | true =>
      obtain ⟨d, hd⟩ := writeOp_transaction (by simpa [hreg, hwe] using h)
      exact ⟨r, d, offset_of_regAt hreg, hd⟩
    | false => exact ⟨r, 0, offset_of_regAt hreg, readOp_transaction (by simpa [hreg, hwe] using h)⟩

end Sys2Proof

namespace Sys2Proof.Machine

open Sys2Proof.Claims

/-! ## Refused or performed (R175) -/

/-- R175 items 5 to 9: an operation whose precondition fails is refused. -/
theorem exec_of_preconditionFails {i : Instr} {s : State} (h : PreconditionFails s i) :
    exec i s = .next (refused s) := by
  cases i with
  | configure hz req => exact exec_configure_refused h
  | seqStart sel => exact exec_seqStart_refused h
  | enable n | disable n | setDuty n w | setDutyFrac n f => exact congrArg _ (onChannel_of_not_open _ h)
  | wrCursor k base len start chm | wrStepFrac e w | wrStepHold e w => exact congrArg _ (whileIdle_locked _ h)
  | rdConfig | resolution | rdStatus | rdFault | rdFaultInfo | rdWarn | rdPscDiv | rdSeqStart | rdEn n | rdDuty n
  | rdCursor k | rdPos k | rdHold k | rdStepFrac e | rdStepHold e | timTick | msTick | reset => exact h.elim

/-- What a BUS event that is not refused leaves of `s`: `FAULT.usage` as it was, and an accepting response or the exact
state of a fatal error. -/
def Performed (s u : State) : Prop :=
  u.faultUsage = s.faultUsage ∧
    ((∃ v, u.resp = some ⟨v, false⟩) ∨ (∃ c, u = hwInitFailed c s) ∨ ∃ c k e, u = stepInvalid c k e s)

theorem performed_respond (w : Word) (s : State) : Performed s (respond w s) := ⟨rfl, .inl ⟨w, rfl⟩⟩

theorem performed_ack {s u : State} (h : u.faultUsage = s.faultUsage) : Performed s (ack u) := ⟨h, .inl ⟨0, rfl⟩⟩

theorem performed_raise (e : FatalError) (s : State) : Performed s (raise e s) := by
  cases he : e.isHardwareInit with
  | true => exact ⟨raise_faultUsage s e, .inr (.inl ⟨_, raise_hardwareInit he s⟩)⟩
  | false => exact ⟨raise_faultUsage s e, .inr (.inr ⟨_, _, _, raise_invalidStep he s⟩)⟩

/-- R100: past its precondition CONFIGURE raises one of its three causes or configures the timer. -/
theorem performed_tryConfigure (hz : BitVec 16) (req : Set2) (s : State) : Performed s (tryConfigure hz req s) := by
  unfold tryConfigure
  split_ifs with hclk hhz
  · exact performed_raise _ s
  · exact performed_raise _ s
  · cases deriveDividers s.dividers s.ports.timclkHz hz with
    | none => exact performed_raise _ s
    | some pm => exact performed_ack rfl

theorem exec_seqStart_accepted {sel : Set2} {s : State} (hdrv : s.drvState = .configured) (hidle : s.seqState = .idle)
    (hsel : sel ≠ 0) : exec (.seqStart sel) s = .next (tryStart sel s) := by
  simp only [exec, execSeqStart, if_pos (And.intro hdrv (And.intro hidle hsel))]

/-- R135: past its precondition SEQ_START raises what validation answers or starts the cursors. -/
theorem performed_tryStart (sel : Set2) (s : State) : Performed s (tryStart sel s) := by
  unfold tryStart
  cases validate s sel with
  | none => exact performed_ack (startSequencer_faultUsage s sel)
  | some e => exact performed_raise e s

theorem performed_onChannel {n : Chan} {f : State → State} {s : State} (hopen : Open s n)
    (hf : (f s).faultUsage = s.faultUsage) : Performed s (onChannel n f s) := by
  rw [onChannel_of_open f hopen]
  exact performed_ack hf

theorem performed_whileIdle {f : State → State} {s : State} (hidle : s.seqState = .idle)
    (hf : (f s).faultUsage = s.faultUsage) : Performed s (whileIdle f s) := by
  rw [whileIdle_idle f hidle]
  exact performed_ack hf

/-- R175: a host operation whose precondition does not fail is not refused. -/
theorem exec_performed {i : Instr} {x : Bool × Reg × Word} {s : State} (hop : i.transaction = some x)
    (h : ¬ PreconditionFails s i) : ∃ u, exec i s = .next u ∧ Performed s u := by
  cases i with
  | configure hz req =>
    obtain ⟨hdrv, hhz, hreq⟩ : s.drvState = .unconfigured ∧ hz ≠ 0 ∧ req ≠ 0 := by
      simpa [PreconditionFails] using h
    exact ⟨_, exec_configure_accepted hdrv hhz hreq, performed_tryConfigure hz req s⟩
  | seqStart sel =>
    obtain ⟨hdrv, hidle, hsel⟩ : s.drvState = .configured ∧ s.seqState = .idle ∧ sel ≠ 0 := by
      simpa [PreconditionFails] using h
    exact ⟨_, exec_seqStart_accepted hdrv hidle hsel, performed_tryStart sel s⟩
  | enable n | disable n => exact ⟨_, rfl, performed_onChannel (not_not.1 h) rfl⟩
  | setDuty n w | setDutyFrac n f => exact ⟨_, rfl, performed_onChannel (not_not.1 h) (drvSetDuty_faultUsage s n _)⟩
  | wrCursor k base len start chm | wrStepFrac e w | wrStepHold e w =>
    exact ⟨_, rfl, performed_whileIdle (not_not.1 h) rfl⟩
  | rdConfig | resolution | rdStatus | rdFault | rdFaultInfo | rdWarn | rdPscDiv | rdSeqStart | rdEn n | rdDuty n
  | rdCursor k | rdPos k | rdHold k | rdStepFrac e | rdStepHold e => exact ⟨_, rfl, performed_respond _ s⟩
  | timTick | msTick | reset => cases hop

theorem busEvent_of_ok {t : BusWord} {i : Instr} (h : decode t = .ok i) (s : State) : busEvent t s = exec i s := by
  unfold busEvent
  rw [h]

/-- R88: a transaction that is not illegal selects an operation. -/
theorem exists_decode_of_not_illegal {t : BusWord} (h : ¬ Illegal t) : ∃ i, decode t = .ok i := by
  cases hd : decode t with
  | ok i => exact ⟨i, rfl⟩
  | error e => exact absurd ((illegal_iff_decode_error t).2 ⟨e, hd⟩) h

/-- R87, R175: a BUS event is refused or performed. -/
theorem busEvent_cases (t : BusWord) (s : State) :
    busEvent t s = .next (refused s) ∨ ∃ u, busEvent t s = .next u ∧ Performed s u := by
  cases hd : decode t with
  | error e => exact .inl (busEvent_of_error hd s)
  | ok i =>
    obtain ⟨r, d, -, hop⟩ := decode_transaction hd
    rw [busEvent_of_ok hd]
    by_cases hpre : PreconditionFails s i
    · exact .inl (exec_of_preconditionFails hpre)
    · exact .inr (exec_performed hop hpre)

/-- Settles O45: a word that no item of the list rejects decodes to a host operation, which is refused exactly when its
precondition fails. -/
theorem refusedExactlyWhenListed : Obligations.RefusedExactlyWhenListed := by
  refine fun t s => ⟨fun hill => (illegalTransactionsAreRefused t).2 hill s,
    fun i hd hpre => (busEvent_of_ok hd s).trans (exec_of_preconditionFails hpre), fun hleg => ?legal⟩
  case legal =>
    obtain ⟨i, hd⟩ := exists_decode_of_not_illegal hleg
    obtain ⟨r, d, -, hop⟩ := decode_transaction hd
    refine ⟨i, hd, fun hpre => ?_⟩
    rw [busEvent_of_ok hd]
    exact exec_performed hop hpre

/-! ## Every event completes (R187) -/

/-- R9: every meaning answers a next state. -/
theorem exec_completes (i : Instr) (s : State) : ∃ t, exec i s = .next t := by
  cases i <;> exact ⟨_, rfl⟩

theorem Performed.exists_resp {s u : State} (h : Performed s u) : ∃ r, u.resp = some r := by
  obtain ⟨-, ⟨v, hv⟩ | ⟨c, rfl⟩ | ⟨c, k, e, rfl⟩⟩ := h
  · exact ⟨_, hv⟩
  · exact ⟨_, rfl⟩
  · exact ⟨_, rfl⟩

/-- Settles O9: a step is an instruction, a refusal or the next cycle's arrival, and a BUS event, refused or performed,
responds. -/
theorem everyEventCompletes : Obligations.EveryEventCompletes := by
  refine ⟨exec_completes, fun s => ?step, fun t s => ?bus⟩
  case step =>
    rcases step_cases s with ⟨i, e, -, hstep, -⟩ | ⟨t, r, -, -, hstep⟩ | ⟨-, hstep⟩
    · obtain ⟨u, hu⟩ := exec_completes i { s with ports := takeEvent e s.ports }
      exact ⟨u, hstep.trans hu⟩
    · exact ⟨_, hstep⟩
    · exact ⟨_, hstep⟩
  case bus =>
    rcases busEvent_cases t s with href | ⟨u, hu, hperf⟩
    · exact ⟨_, _, href, rfl⟩
    · obtain ⟨r, hr⟩ := hperf.exists_resp
      exact ⟨u, r, hu, hr⟩

/-! ## A HardwareInitError is final for the driver (R172) -/

/-- R21, R101: once the driver has left Unconfigured no event but RESET changes its state or its allocation: CONFIGURE's
outcomes past its precondition need Unconfigured, and SEQ_START raises InvalidStepErrors only. -/
theorem exec_keeps_driver {i : Instr} {s t : State} (h : exec i s = .next t) (hdrv : s.drvState ≠ .unconfigured)
    (hi : i ≠ .reset) :
    t.drvState = s.drvState ∧ t.maxDuty = s.maxDuty ∧ t.alloc = s.alloc ∧ t.carrierHz = s.carrierHz := by
  rcases exec_cases h with ⟨w, r, -, rfl⟩ | ⟨r, d, -, rfl⟩ | ⟨hz, req, e, -, -, hun, -⟩ | ⟨hz, req, p, m, -, hun, -⟩ |
    ⟨sel, e, -, -, -, -, -, he, rfl⟩ | ⟨sel, -, -, -, -, -, rfl⟩ | ⟨n, b, -, -, -, rfl⟩ | ⟨n, v, -, -, -, rfl⟩ |
    ⟨k, base, len, start, chm, -, -, rfl⟩ | ⟨e, w, -, -, rfl⟩ | ⟨e, w, -, -, rfl⟩ | ⟨-, rfl⟩ | ⟨-, rfl⟩ | ⟨hr, -⟩
  · simp
  · simp
  · exact absurd hun hdrv
  · exact absurd hun hdrv
  · simp [raise_invalidStep he, stepInvalid]
  · simp
  · simp
  · simp
  · simp
  · simp
  · simp
  · simp
  · simp
  · exact absurd hr hi

theorem not_open_of_not_configured {s : State} (h : s.drvState ≠ .configured) (n : Chan) : ¬ Open s n :=
  fun hopen => h hopen.1

/-- R51: the outputs of a driver that is not Configured are low. -/
theorem pwmOut_eq_false_of_not_configured {s : State} (h : s.drvState ≠ .configured) (n : Chan) :
    pwmOut s n = false :=
  Bool.eq_false_iff.2 fun hout => h ((pwmOut_eq_true s n).1 hout).1

/-- Settles O43: in InitFailed every listed precondition fails, and what the invariants say of a driver that is not
Configured stays. -/
theorem initFailedIsFinal : Obligations.InitFailedIsFinal := by
  refine ⟨fun e s he => raise_hardwareInit he s, fun s hinv hfailed => ?_⟩
  have hconf : s.drvState ≠ .configured := by simp [hfailed]
  have hunconf : s.drvState ≠ .unconfigured := by simp [hfailed]
  have hclosed := not_open_of_not_configured hconf
  refine ⟨(fatal_eq_true s).2 (.inl (hinv.hwinit_iff.2 hfailed)), pwmOut_eq_false_of_not_configured hconf,
    exec_timTick_unconfigured hconf, fun hz req => exec_configure_refused (.inl hunconf),
    fun n w => ⟨exec_of_preconditionFails (hclosed n), exec_of_preconditionFails (hclosed n),
      exec_of_preconditionFails (hclosed n), exec_of_preconditionFails (hclosed n)⟩,
    fun sel => exec_seqStart_refused (.inl hconf), fun i t hi h => ?stays⟩
  case stays =>
    obtain ⟨hcarrier, halloc, -⟩ := hinv.unconfigured_zero hconf
    obtain ⟨hdrv', hmax', halloc', hcarrier'⟩ := exec_keeps_driver h hunconf hi
    exact ⟨hdrv'.trans hfailed, hmax'.trans (BitVec.eq_of_toNat_eq (hinv.maxDuty_eq_zero hconf)),
      halloc'.trans halloc, hcarrier'.trans hcarrier⟩

/-! ## An InvalidStepError is final for the sequencer (R173) -/

/-- R33: once the sequencer has left Idle no event but RESET changes its state: SEQ_START's outcomes past its
precondition need Idle, and CONFIGURE raises HardwareInitErrors only. -/
theorem exec_keeps_seqState {i : Instr} {s t : State} (h : exec i s = .next t) (hseq : s.seqState ≠ .idle)
    (hi : i ≠ .reset) : t.seqState = s.seqState := by
  rcases exec_cases h with ⟨w, r, -, rfl⟩ | ⟨r, d, -, rfl⟩ | ⟨hz, req, e, -, he, -, -, -, rfl⟩ |
    ⟨hz, req, p, m, -, -, -, -, -, -, rfl⟩ | ⟨sel, e, -, -, hidle, -⟩ | ⟨sel, -, -, hidle, -⟩ |
    ⟨n, b, -, -, -, rfl⟩ | ⟨n, v, -, -, -, rfl⟩ | ⟨k, base, len, start, chm, -, hidle, -⟩ | ⟨e, w, -, hidle, -⟩ |
    ⟨e, w, -, hidle, -⟩ | ⟨-, rfl⟩ | ⟨-, rfl⟩ | ⟨hr, -⟩
  · rfl
  · rfl
  · rw [raise_hardwareInit he, hwInitFailed]
  · rfl
  · exact absurd hidle hseq
  · exact absurd hidle hseq
  · rfl
  · exact drvSetDuty_seqState s n v
  · exact absurd hidle hseq
  · exact absurd hidle hseq
  · exact absurd hidle hseq
  · exact timTick_seqState s
  · exact msTick_seqState s
  · exact absurd hr hi

/-- R40 item 2: only a configured driver has a sequencer outside Idle. -/
theorem Invariants.configured_of_not_idle {s : State} (hinv : Invariants s) (hseq : s.seqState ≠ .idle) :
    s.drvState = .configured := by
  by_contra hdrv
  exact hseq (hinv.driver_clear hdrv).seq

/-- R40 item 7: a cursor runs only while the sequencer does. -/
theorem Invariants.running_eq_false {s : State} (hinv : Invariants s) (hseq : s.seqState ≠ .running) (k : CurNum) :
    s.running[k.val] = false :=
  Bool.eq_false_iff.2 fun hk => hseq (hinv.cursors k hk).seq_running

/-- R150 to R152: the prescaler starts again and the counter, below its last value, counts. -/
theorem timerTick_counts {s : State} (hpsc : s.pscDiv.toNat ≤ s.pscCnt.toNat + 1)
    (hcnt : s.cnt.toNat + 1 < s.maxDuty.toNat) : timerTick s = { s with pscCnt := 0, cnt := s.cnt + 1 } :=
  (timerTick_ticks hpsc.not_gt).trans (counterStep_counts hcnt)

/-- Settles O44: in Fatal the sequencer's preconditions fail and its state stays, while the driver is configured by the
invariants and its operations do not look at the sequencer. -/
theorem sequencerFatalIsFinal : Obligations.SequencerFatalIsFinal := by
  refine ⟨fun e s he => raise_invalidStep he s, fun s hinv hfatal => ?_⟩
  have hidle : s.seqState ≠ .idle := by simp [hfatal]
  have hrun : s.seqState ≠ .running := by simp [hfatal]
  have hconf := hinv.configured_of_not_idle hidle
  refine ⟨(fatal_eq_true s).2 (.inr (hinv.invalid_iff.2 hfatal)), hconf, hinv.running_eq_false hrun,
    exec_msTick_stopped hrun, fun sel => exec_seqStart_refused (.inr (.inl hidle)),
    fun i w => ⟨exec_of_preconditionFails hidle, exec_of_preconditionFails hidle⟩,
    fun k b l st c => exec_of_preconditionFails hidle,
    fun n w hopen => ⟨exec_setDuty_of_open w hopen, exec_setDutyFrac_of_open w hopen, exec_enable_of_open hopen,
      exec_disable_of_open hopen⟩,
    fun hpsc hcnt => (exec_timTick_configured hconf).trans (congrArg _ (timerTick_counts hpsc hcnt)),
    fun i t hi h => (exec_keeps_seqState h hidle hi).trans hfatal⟩

end Sys2Proof.Machine
end

section
/-! Decoding and encoding are inverse to each other (30_encoding.md R80, R81, R86, R87). -/

namespace Sys2Proof

/-- R81: the operation of a transaction is the one that its register's columns name for its direction and data. -/
theorem op_of_transaction {i : Instr} {we : Bool} {r : Reg} {d : Word} (h : i.transaction = some (we, r, d)) :
    (if we then writeOp r d else readOp r) = .ok i := by
  cases i with
  | configure hz req | seqStart sel | wrCursor k base len start chm =>
    cases h
    simp [writeOp]
  | enable n | disable n | setDuty n w | setDutyFrac n f | wrStepFrac e f | wrStepHold e w =>
    cases h
    rfl
  | rdConfig | resolution | rdStatus | rdFault | rdFaultInfo | rdWarn | rdPscDiv | rdSeqStart | rdEn n | rdDuty n
  | rdCursor k | rdPos k | rdHold k | rdStepFrac e | rdStepHold e =>
    cases h
    rfl
  | timTick | msTick | reset => cases h

/-- R87: a transaction at a register's offset selects the register's operation. -/
theorem decode_of_transaction {i : Instr} {we : Bool} {r : Reg} {d : Word} (h : i.transaction = some (we, r, d)) :
    decode (busWord we r.offset d) = .ok i := by
  rw [decode_busWord, decodeFields, regAt_offset]
  exact op_of_transaction h

theorem encode_of_transaction {i : Instr} {we : Bool} {r : Reg} {d : Word} (h : i.transaction = some (we, r, d)) :
    encode i = some (busWord we r.offset d) := by
  rw [encode, h]

/-- R86: every instruction but the three events is a bus transaction. -/
theorem exists_transaction {i : Instr} (htim : i ≠ .timTick) (hms : i ≠ .msTick) (hrst : i ≠ .reset) :
    ∃ we r d, i.transaction = some (we, r, d) := by
  cases i with
  | timTick => exact absurd rfl htim
  | msTick => exact absurd rfl hms
  | reset => exact absurd rfl hrst
  | _ => exact ⟨_, _, _, rfl⟩

/-- Settles O1: the word is found at its register's offset, whose column names the operation. -/
theorem decodeOfEncodeIsIdentity : Obligations.DecodeOfEncodeIsIdentity := by
  intro i htim hms hrst
  obtain ⟨we, r, d, htr⟩ := exists_transaction htim hms hrst
  exact ⟨_, encode_of_transaction htr, decode_of_transaction htr⟩

/-- Settles O2: the operation of a word is one of the word's own direction and register, and so is its encoding. -/
theorem encodeOfDecodeKeepsTransaction : Obligations.EncodeOfDecodeKeepsTransaction := by
  intro t i h
  obtain ⟨r, d, haddr, htr⟩ := decode_transaction h
  exact ⟨_, encode_of_transaction htr, decode_of_transaction htr, busWe_busWord _ _ _,
    (busAddr_busWord _ _ _).trans haddr⟩

/-- Settles O6, word by word. -/
theorem writtenWordsDecode : Obligations.WrittenWordsDecode := by
  unfold Obligations.WrittenWordsDecode
  decide

end Sys2Proof
end

section
/-! What an instruction keeps and what it writes: the environment's fields (R50), the timer configuration (R22, R24), the
timer's counters and active duties (R25, R26, R29), the record of the first fatal error (R31), the state of the sequencer
(R33, R141), the cursors' positions (R37, R163) and the event stream (R52). -/

namespace Sys2Proof.Machine

open Sys2Proof.Claims

/-! ## Arrays and words -/

/-- An element of an array other than the one written is as it was. -/
theorem getElem_set_of_ne {α : Type} {n : Nat} {i j : Fin n} (v : Vector α n) (x : α) (h : j ≠ i) :
    (v.set i x)[j.val] = v[j.val] :=
  Vector.getElem_set_ne _ _ (Fin.val_ne_of_ne (Ne.symm h))

theorem one_le_toNat_of_ne_zero {w : Nat} {x : BitVec w} (h : x ≠ 0) : 1 ≤ x.toNat :=
  Nat.one_le_iff_ne_zero.2 fun hzero => h (BitVec.eq_of_toNat_eq hzero)

section
variable {i : Instr} {s t : State} (h : exec i s = .next t)
include h

/-! ## The environment's fields and the timer configuration -/

theorem exec_keeps_environment : t.ports = s.ports ∧ t.coming = s.coming ∧ t.dividers = s.dividers := by
  rcases exec_cases h with ⟨w, r, -, rfl⟩ | ⟨r, d, -, rfl⟩ | ⟨hz, req, e, -, -, -, -, -, rfl⟩ |
    ⟨hz, req, p, m, -, -, -, -, -, -, rfl⟩ | ⟨sel, e, -, -, -, -, -, -, rfl⟩ | ⟨sel, -, -, -, -, -, rfl⟩ |
    ⟨n, b, -, -, -, rfl⟩ | ⟨n, v, -, -, -, rfl⟩ | ⟨k, base, len, start, chm, -, -, rfl⟩ | ⟨e, w, -, -, rfl⟩ |
    ⟨e, w, -, -, rfl⟩ | ⟨-, rfl⟩ | ⟨-, rfl⟩ | ⟨-, rfl⟩ <;>
  simp [configureTimer, resetAll]

/-- R25, R26, R29: the counters and the active duties are as they were, but in TIM_TICK, in a successful CONFIGURE and in
RESET. -/
theorem exec_timer_cases :
    (t.cnt = s.cnt ∧ t.pscCnt = s.pscCnt ∧ t.dutyActive = s.dutyActive) ∨ (i = .timTick ∧ t = timTick s) ∨
    (∃ hz req p m, i = .configure hz req ∧ t = ack (configureTimer hz req p m s)) ∨ (i = .reset ∧ t = resetAll s) := by
  rcases exec_cases h with ⟨w, r, -, rfl⟩ | ⟨r, d, -, rfl⟩ | ⟨hz, req, e, -, -, -, -, -, rfl⟩ |
    ⟨hz, req, p, m, hi, -, -, -, -, -, ht⟩ | ⟨sel, e, -, -, -, -, -, -, rfl⟩ | ⟨sel, -, -, -, -, -, rfl⟩ |
    ⟨n, b, -, -, -, rfl⟩ | ⟨n, v, -, -, -, rfl⟩ | ⟨k, base, len, start, chm, -, -, rfl⟩ | ⟨e, w, -, -, rfl⟩ |
    ⟨e, w, -, -, rfl⟩ | htick | ⟨-, rfl⟩ | hreset
  · exact .inl (by simp)
  · exact .inl (by simp)
  · exact .inl (by simp)
  · exact .inr (.inr (.inl ⟨hz, req, p, m, hi, ht⟩))
  · exact .inl (by simp)
  · exact .inl (by simp)
  · exact .inl (by simp)
  · exact .inl (by simp)
  · exact .inl (by simp)
  · exact .inl (by simp)
  · exact .inl (by simp)
  · exact .inr (.inl htick)
  · exact .inl (by simp)
  · exact .inr (.inr (.inr hreset))

/-- R31: the record of a fatal error is as it was, but when an error is raised, in a part of the block that has not
failed, and in RESET. -/
theorem exec_fatalRecord_cases :
    (t.faultCause = s.faultCause ∧ t.faultCur = s.faultCur ∧ t.faultStep = s.faultStep ∧
      t.faultHwinit = s.faultHwinit ∧ t.faultInvalidStep = s.faultInvalidStep) ∨
    (∃ e, t = raise e s ∧ (s.drvState = .unconfigured ∨ s.drvState = .configured ∧ s.seqState = .idle)) ∨
    i = .reset := by
  rcases exec_cases h with ⟨w, r, -, rfl⟩ | ⟨r, d, -, rfl⟩ | ⟨hz, req, e, -, -, hun, -, -, ht⟩ |
    ⟨hz, req, p, m, -, -, -, -, -, -, rfl⟩ | ⟨sel, e, -, hconf, hidle, -, -, -, ht⟩ | ⟨sel, -, -, -, -, -, rfl⟩ |
    ⟨n, b, -, -, -, rfl⟩ | ⟨n, v, -, -, -, rfl⟩ | ⟨k, base, len, start, chm, -, -, rfl⟩ | ⟨e, w, -, -, rfl⟩ |
    ⟨e, w, -, -, rfl⟩ | ⟨-, rfl⟩ | ⟨-, rfl⟩ | ⟨hi, -⟩
  · exact .inl (by simp)
  · exact .inl (by simp)
  · exact .inr (.inl ⟨e, ht, .inl hun⟩)
  · exact .inl (by simp [configureTimer])
  · exact .inr (.inl ⟨e, ht, .inr ⟨hconf, hidle⟩⟩)
  · exact .inl (by simp)
  · exact .inl (by simp)
  · exact .inl (by simp)
  · exact .inl (by simp)
  · exact .inl (by simp)
  · exact .inl (by simp)
  · exact .inl (by simp)
  · exact .inl (by simp)
  · exact .inr (.inr hi)

/-- R141: no event but SEQ_START and RESET moves the sequencer: CONFIGURE raises HardwareInitErrors only. -/
theorem exec_keeps_seqState_of_ne_start (hstart : ∀ sel, i ≠ .seqStart sel) (hi : i ≠ .reset) :
    t.seqState = s.seqState := by
  rcases exec_cases h with ⟨w, r, -, rfl⟩ | ⟨r, d, -, rfl⟩ | ⟨hz, req, e, -, he, -, -, -, rfl⟩ |
    ⟨hz, req, p, m, -, -, -, -, -, -, rfl⟩ | ⟨sel, e, hsel, -⟩ | ⟨sel, hsel, -⟩ | ⟨n, b, -, -, -, rfl⟩ |
    ⟨n, v, -, -, -, rfl⟩ | ⟨k, base, len, start, chm, -, -, rfl⟩ | ⟨e, w, -, -, rfl⟩ | ⟨e, w, -, -, rfl⟩ | ⟨-, rfl⟩ |
    ⟨-, rfl⟩ | ⟨hr, -⟩
  · rfl
  · rfl
  · rw [raise_hardwareInit he, hwInitFailed]
  · rfl
  · exact absurd hsel (hstart sel)
  · exact absurd hsel (hstart sel)
  · rfl
  · exact drvSetDuty_seqState s n v
  · rfl
  · rfl
  · rfl
  · exact timTick_seqState s
  · exact msTick_seqState s
  · exact absurd hr hi

end

/-- Settles O10: no outcome of an instruction writes one of the three fields. -/
theorem instructionsKeepEnvironment : Obligations.InstructionsKeepEnvironment :=
  fun _ _ _ => exec_keeps_environment

/-- Settles O20: in a configured driver CONFIGURE is refused, and no other event writes its results. -/
theorem timerConfigurationIsImmutable : Obligations.TimerConfigurationIsImmutable := by
  intro i s t h hconf hi
  obtain ⟨hdrv, -⟩ := exec_keeps_driver h (by simp [hconf]) hi
  exact ⟨hdrv.trans hconf, exec_keeps_timer_configuration h hconf hi⟩

/-! ## The counters and the active duties -/

/-- R152, R153: the tick that ends a frame starts the next one. -/
theorem timTick_of_frameEnds {s : State} (h : FrameEnds s) :
    timTick s = { s with pscCnt := 0, cnt := 0, dutyActive := s.dutyValue } := by
  obtain ⟨hconf, hpsc, hcnt⟩ := h
  have hwrap : timTick s = counterStep { s with pscCnt := 0 } := (if_pos hconf).trans (timerTick_ticks hpsc.not_gt)
  rw [hwrap, counterStep_wraps (by simpa using hcnt)]
  rfl

/-- Settles O55: of the events that can write a counter, CONFIGURE and RESET leave 0. -/
theorem counterWriters : Obligations.CounterWriters := by
  intro i s t h hne
  rcases exec_timer_cases h with ⟨hcnt, hpsc, -⟩ | ⟨hi, -⟩ | ⟨hz, req, p, m, hi, rfl⟩ | ⟨hi, rfl⟩
  · rcases hne with hne | hne
    · exact absurd hcnt hne
    · exact absurd hpsc hne
  · exact .inl hi
  · exact .inr ⟨.inr ⟨hz, req, hi⟩, rfl, rfl⟩
  · exact .inr ⟨.inl hi, rfl, rfl⟩

/-- Settles O37: of the four things a TIM_TICK can do, only the frame start writes `duty_active`. -/
theorem activeDutyChangesAtFrameStartOnly : Obligations.ActiveDutyChangesAtFrameStartOnly := by
  refine ⟨fun s t hend h => ?frameStart, fun i s t h hne => ?writers⟩
  case frameStart =>
    cases h
    rw [timTick_of_frameEnds hend]
    exact ⟨rfl, rfl⟩
  case writers =>
    rcases exec_timer_cases h with ⟨-, -, hactive⟩ | ⟨hi, rfl⟩ | ⟨hz, req, p, m, hi, rfl⟩ | ⟨hi, rfl⟩
    · exact absurd hactive hne
    · rcases timTick_cases s with ⟨-, ht⟩ | ⟨-, -, ht⟩ | ⟨-, -, -, ht⟩ | ⟨hconf, hpsc, hcnt, ht⟩
      · exact absurd (by rw [ht]) hne
      · exact absurd (by rw [ht]) hne
      · exact absurd (by rw [ht]) hne
      · exact .inl ⟨hi, ⟨hconf, hpsc, hcnt⟩, by rw [ht]⟩
    · exact .inr ⟨.inr ⟨hz, req, hi⟩, rfl⟩
    · exact .inr ⟨.inl hi, rfl⟩

/-! ## The duty write -/

/-- Settles O23: SET_DUTY is the clamped write, which sets `WARN` at most and no flag of FAULT. -/
theorem dutyWriteClampsAndWarns : Obligations.DutyWriteClampsAndWarns := by
  refine fun n v s => ⟨drvSetDuty_eq_clampedWrite n v s, ?clamp, fun w hopen => ?accepted⟩
  case clamp => simp [dutyOf_toNat]
  case accepted =>
    refine ⟨_, exec_setDuty_of_open w hopen, rfl, ?_, ?_⟩ <;> rw [← drvSetDuty_eq_clampedWrite]
    · simp [fatal, acked]
    · simp [acked]

/-! ## The first fatal error -/

/-- R30: an error raised is a fatal error. -/
theorem fatal_raise (e : FatalError) (s : State) : fatal (raise e s) = true := by
  cases he : e.isHardwareInit with
  | true => simp [raise_hardwareInit he, fatal, hwInitFailed]
  | false => simp [raise_invalidStep he, fatal, stepInvalid]

/-- R30, R40: neither a driver before its CONFIGURE nor a configured one with an Idle sequencer has failed. -/
theorem Invariants.not_fatal {s : State} (hinv : Invariants s)
    (h : s.drvState = .unconfigured ∨ s.drvState = .configured ∧ s.seqState = .idle) : fatal s = false := by
  have hidle : s.seqState = .idle := by
    rcases h with hun | ⟨-, hidle⟩
    · exact (hinv.driver_clear (by simp [hun])).seq
    · exact hidle
  have hdrv : s.drvState ≠ .initFailed := by
    rcases h with hun | ⟨hconf, -⟩
    · simp [hun]
    · simp [hconf]
  simp [Bool.eq_false_iff, fatal_eq_true, hinv.hwinit_iff, hinv.invalid_iff, hdrv, hidle]

/-- Settles O47: an error is raised only where none has been, and leaves one. -/
theorem fatalCauseIsWrittenOnce : Obligations.FatalCauseIsWrittenOnce := by
  intro i s t hinv h hi
  rcases exec_fatalRecord_cases h with hkeeps | ⟨e, rfl, hbefore⟩ | hreset
  · obtain ⟨hcause, hcur, hstep, -⟩ := id hkeeps
    exact ⟨fun _ => hkeeps, fun _ _ => ⟨hcause, hcur, hstep⟩⟩
  · exact ⟨fun hf => by simp [hinv.not_fatal hbefore] at hf, fun _ hf => by simp [fatal_raise] at hf⟩
  · exact absurd hreset hi

/-! ## The sequencer -/

/-- Settles O49: SEQ_START refused, failed and started, and the writes locked outside Idle. -/
theorem sequencerTransitions : Obligations.SequencerTransitions := by
  intro i s t h
  refine ⟨?reset, ?start, ?refusedStart, fun hi hstart => exec_keeps_seqState_of_ne_start h hstart hi,
    fun hlocked => ⟨?table, ?cursor⟩⟩
  case reset =>
    rintro rfl
    cases h
    rfl
  case start =>
    rintro sel rfl hidle hconf hsel
    cases hval : validate s sel with
    | none =>
      obtain rfl : ack (startSequencer sel s) = t := by simpa [exec_seqStart_valid hconf hidle hsel hval] using h
      simp
    | some e =>
      have hraise := (exec_seqStart_invalid hconf hidle hsel hval).symm.trans h
      cases hraise
      simp [stepInvalid]
  case refusedStart =>
    rintro sel rfl hpre
    have hrefused : exec (.seqStart sel) s = .next (refused s) := exec_seqStart_refused (by tauto)
    exact Host.Outcome.next.inj (h.symm.trans hrefused)
  case table =>
    rintro e w (rfl | rfl)
    · exact Host.Outcome.next.inj (h.symm.trans (exec_of_preconditionFails hlocked))
    · exact Host.Outcome.next.inj (h.symm.trans (exec_of_preconditionFails hlocked))
  case cursor =>
    rintro k b l st c rfl
    exact Host.Outcome.next.inj (h.symm.trans (exec_of_preconditionFails hlocked))

/-- R158, R159: MS_TICK moves the cursors that are due, and no other. -/
theorem msTick_idx (s : State) (k : CurNum) :
    (msTick s).idx[k.val] = if s.seqState = .running ∧ isDue s k then nextOffset s k else s.idx[k.val] := by
  unfold msTick
  split
  · rename_i hseq
    simp only [cursorTicks_idx, hseq, true_and]
  · rename_i hseq
    simp only [hseq, false_and, if_false]

/-- R158, R160: MS_TICK reloads the holds that end and takes a millisecond off the others that run. -/
theorem msTick_holdRem (s : State) (k : CurNum) :
    (msTick s).holdRem[k.val] =
      if s.seqState = .running ∧ isDue s k then tableHold s (s.curBase[k.val].toNat + (nextOffset s k).toNat)
      else if s.seqState = .running ∧ s.running[k.val] then s.holdRem[k.val] - 1 else s.holdRem[k.val] := by
  unfold msTick
  split
  · rename_i hseq
    simp only [cursorTicks_holdRem, hseq, true_and]
  · rename_i hseq
    simp only [hseq, false_and, if_false]

/-- Settles O53: the three events that can move a cursor, and where each of them puts it. -/
theorem positionWrittenByStartAndAdvance : Obligations.PositionWrittenByStartAndAdvance := by
  intro i s t k h hne
  by_cases hstart : ∃ sel, i = .seqStart sel
  · obtain ⟨sel, rfl⟩ := hstart
    rcases execSeqStart_cases h with rfl | ⟨e, -, -, -, -, -, rfl⟩ | ⟨-, -, -, -, rfl⟩
    · exact absurd rfl hne
    · exact absurd (by simp) hne
    · rw [ack_idx, startSequencer_idx] at hne
      obtain hk : inSet sel k = true := by
        by_contra hk
        exact hne (if_neg hk)
      exact .inl ⟨sel, rfl, hk, (startSequencer_idx sel k s).trans (if_pos hk)⟩
  by_cases htick : i = .msTick
  · subst htick
    cases h
    rw [msTick_idx] at hne ⊢
    obtain ⟨hseq, hdue⟩ : s.seqState = .running ∧ isDue s k = true := by
      by_contra hdue
      exact hne (if_neg hdue)
    refine .inr (.inl ⟨rfl, (isDue_iff s k).1 hdue, fun hlen => ?_⟩)
    rw [if_pos ⟨hseq, hdue⟩, nextOffset_toNat s k (one_le_toNat_of_ne_zero hlen), nextIdx]
  by_cases hreset : i = .reset
  · subst hreset
    cases h
    exact .inr (.inr ⟨rfl, by simp [resetAll, State.reset]⟩)
  · obtain ⟨hidx, -⟩ := exec_keeps_position h (not_exists.1 hstart) htick hreset
    exact absurd (by rw [hidx]) hne

/-! ## The event stream (R52) -/

theorem stepRec_word_toNat (k : CurNum) (n : Chan) (j : BitVec 8) (f : Word) (v : DutyWord) :
    (LogRec.word (.step k n j f v)).toNat =
      f.toNat * 2 ^ 32 + v.toNat * 2 ^ 12 + j.toNat * 2 ^ 4 + k.val * 8 + n.val * 4 + 1 := by
  rw [LogRec.word, BitVec.toNat_setWidth_of_le (by decide)]
  simp only [toNat_append_eq, BitVec.toNat_ofNat]
  omega

theorem satRec_word_toNat (n : Chan) (d : SatDir) (v : DutyWord) :
    (LogRec.word (.sat n d v)).toNat = v.toNat * 2 ^ 12 + d.code.toNat * 8 + n.val * 4 + 2 := by
  rw [LogRec.word, BitVec.toNat_setWidth_of_le (by decide)]
  simp only [toNat_append_eq, BitVec.toNat_ofNat]
  omega

/-- Settles O57: every event but RESET appends, and a record's word is the concatenation of its fields. -/
theorem eventStreamLayout : Obligations.EventStreamLayout := by
  refine ⟨fun i s t h hi => ?appends, stepRec_word_toNat, fun n v => ?below, fun n v => ?above⟩
  case appends =>
    obtain ⟨l, hl, -⟩ := satFollowsLog_exec h hi
    exact ⟨l, hl.symm⟩
  case below => simp [satRec_word_toNat, SatDir.code]
  case above => simp [satRec_word_toNat, SatDir.code]

end Sys2Proof.Machine
end

section
/-! Steps and the ports: the event that a step runs (R7, R8, R87), coincident events, and that no operation but CONFIGURE
looks at the clock ports (R50). -/

namespace Sys2Proof.Machine

open Sys2Proof.Claims

/-! ## The pending event (R8) -/

section
variable {s : State}

theorem step_of_rst (hrst : s.ports.rst = true) :
    step s = exec .reset { s with
      ports := { s.ports with rst := false, bus := none, msTick := false, timTick := false } } := by
  have hnext : nextEvent s.ports = some .rst := if_pos hrst
  rw [step, hnext]
  rfl

variable (hrst : s.ports.rst = false)
include hrst

theorem step_of_bus {t : BusWord} (hbus : s.ports.bus = some t) :
    step s = busEvent t { s with ports := { s.ports with bus := none } } := by
  have hnext : nextEvent s.ports = some (.bus t) := by simp [nextEvent, hrst, hbus]
  rw [step, hnext]
  rfl

theorem step_of_msTick (hbus : s.ports.bus = none) (hms : s.ports.msTick = true) :
    step s = exec .msTick { s with ports := { s.ports with msTick := false } } := by
  have hnext : nextEvent s.ports = some .msTick := by simp [nextEvent, hrst, hbus, hms]
  rw [step, hnext]
  rfl

theorem step_of_timTick (hbus : s.ports.bus = none) (hms : s.ports.msTick = false) (htim : s.ports.timTick = true) :
    step s = exec .timTick { s with ports := { s.ports with timTick := false } } := by
  have hnext : nextEvent s.ports = some .timTick := by simp [nextEvent, hrst, hbus, hms, htim]
  rw [step, hnext]
  rfl

theorem step_of_no_event (hbus : s.ports.bus = none) (hms : s.ports.msTick = false) (htim : s.ports.timTick = false) :
    step s = .next (nextCycle s) := by
  have hnext : nextEvent s.ports = none := by simp [nextEvent, hrst, hbus, hms, htim]
  rw [step, hnext]

end

/-- Settles O7: one equation for each event that can come next, and the next cycle's arrival. -/
theorem stepRunsPendingEvent : Obligations.StepRunsPendingEvent := by
  refine fun s => ⟨fun t i hrst hbus hd => ?bus, fun t e hrst hbus hd => ?rejected, step_of_msTick, step_of_timTick,
    step_of_rst, fun hrst hbus hms htim => ?idle⟩
  case bus => rw [step_of_bus hrst hbus, busEvent_of_ok hd]
  case rejected => rw [step_of_bus hrst hbus, busEvent_of_error hd]
  case idle =>
    rw [step_of_no_event hrst hbus hms htim]
    exact ⟨fun p rest hcoming => by rw [nextCycle, hcoming], fun hcoming => by rw [nextCycle, hcoming]⟩

/-! ## Coincident events (R8) -/

theorem busEvent_keeps_ports {t : BusWord} {s u : State} (h : busEvent t s = .next u) : u.ports = s.ports := by
  cases hd : decode t with
  | ok i =>
    obtain ⟨hports, -⟩ := exec_keeps_environment (busEvent_of_ok hd s ▸ h)
    exact hports
  | error e =>
    cases (busEvent_of_error hd s).symm.trans h
    rfl

/-- A run of `n + 1` steps is one step and a run of `n`. -/
theorem core_run_succ {s u : State} (h : step s = .next u) (n : Nat) : core.run (n + 1) s = core.run n u := by
  have hcore : core.step s = .next u := h
  simp only [Host.Core.run, hcore]

/-- R8: the three events of one cycle take three steps, each on the ports that the one before it left. -/
theorem run_coincident {s : State} {t : BusWord} (hrst : s.ports.rst = false) (hbus : s.ports.bus = some t)
    (hms : s.ports.msTick = true) (htim : s.ports.timTick = true) :
    ∃ a b c, busEvent t { s with ports := { s.ports with bus := none } } = .next a ∧
      exec .msTick { a with ports := { s.ports with bus := none, msTick := false } } = .next b ∧
      exec .timTick { b with ports := { s.ports with bus := none, msTick := false, timTick := false } } = .next c ∧
      core.run 3 s = .next c := by
  obtain ⟨-, -, hresponds⟩ := everyEventCompletes
  obtain ⟨a, -, ha, -⟩ := hresponds t { s with ports := { s.ports with bus := none } }
  have hpa : a.ports = { s.ports with bus := none } := busEvent_keeps_ports ha
  obtain ⟨b, hb⟩ := exec_completes .msTick { a with ports := { s.ports with bus := none, msTick := false } }
  obtain ⟨hpb, -⟩ := exec_keeps_environment hb
  obtain ⟨c, hc⟩ := exec_completes .timTick
    { b with ports := { s.ports with bus := none, msTick := false, timTick := false } }
  have hstep : step s = .next a := (step_of_bus hrst hbus).trans ha
  have hstep' : step a = .next b := by
    rw [step_of_msTick (by rw [hpa, hrst]) (by rw [hpa]) (by rw [hpa, hms]), hpa, hb]
  have hstep'' : step b = .next c := by
    rw [step_of_timTick (by rw [hpb, hrst]) (by rw [hpb]) (by rw [hpb]) (by rw [hpb, htim]), hpb, hc]
  exact ⟨a, b, c, ha, hb, hc, by rw [core_run_succ hstep, core_run_succ hstep', core_run_succ hstep'']; rfl⟩

/-- R108, R110: SET_DUTY on an open channel stores the clamp of its operand and leaves the timer where it was. -/
theorem exec_setDuty_at_frameEnd {s : State} {n : Chan} (w : Word) (hopen : Open s n) (hend : FrameEnds s) :
    ∃ a, exec (.setDuty n w) s = .next a ∧ FrameEnds a ∧
      (a.dutyValue[n.val].toNat : Int) = max 0 (min w.toInt s.maxDuty.toNat) := by
  refine ⟨acked (drvSetDuty n w.toInt s), ?_, ?_, ?_⟩
  · rw [exec_setDuty_of_open w hopen, drvSetDuty_eq_clampedWrite]
  · simpa [FrameEnds, acked] using hend
  · simp [acked, dutyOf_toNat]

/-- R8, R153: the frame that starts with a SET_DUTY takes the value written. -/
theorem run_setDuty_at_frameEnd {s : State} {t : BusWord} {n : Chan} {w : Word} (hrst : s.ports.rst = false)
    (hbus : s.ports.bus = some t) (hd : decode t = .ok (.setDuty n w)) (hms : s.ports.msTick = false)
    (htim : s.ports.timTick = true) (hopen : Open s n) (hend : FrameEnds s) :
    ∃ c, core.run 2 s = .next c ∧ (c.dutyActive[n.val].toNat : Int) = max 0 (min w.toInt s.maxDuty.toNat) := by
  obtain ⟨a, ha, hend', hduty⟩ :=
    exec_setDuty_at_frameEnd (s := { s with ports := { s.ports with bus := none } }) w hopen hend
  obtain ⟨hpa, -⟩ := exec_keeps_environment ha
  have hstep : step s = .next a := by rw [step_of_bus hrst hbus, busEvent_of_ok hd, ha]
  have hstep' : step a = .next (timTick { a with ports := { a.ports with timTick := false } }) :=
    step_of_timTick (by rw [hpa, hrst]) (by rw [hpa]) (by rw [hpa, hms]) (by rw [hpa, htim])
  refine ⟨_, by rw [core_run_succ hstep, core_run_succ hstep']; rfl, ?_⟩
  rw [timTick_of_frameEnds (s := { a with ports := { a.ports with timTick := false } }) hend']
  exact hduty

/-- Settles O8: the three events of a cycle, RESET alone, and a SET_DUTY before a frame start. -/
theorem coincidentEventsRunInOrder : Obligations.CoincidentEventsRunInOrder :=
  ⟨fun _ _ => run_coincident, fun s hrst => ⟨resetAll s, rfl, step_of_rst hrst⟩, fun _ _ _ _ => run_setDuty_at_frameEnd⟩

/-! ## No operation but CONFIGURE looks at the ports (R50) -/

/-- The state with the input ports replaced. -/
def State.withPorts (p : Ports) (s : State) : State := { s with ports := p }

/-- The effect `f` neither reads nor writes the input ports. -/
def IgnoresPorts (f : State → State) : Prop := ∀ p, Function.Commute (State.withPorts p) f

theorem IgnoresPorts.comp {f g : State → State} (hf : IgnoresPorts f) (hg : IgnoresPorts g) :
    IgnoresPorts (fun s => f (g s)) := fun p => (hf p).comp_right (hg p)

theorem IgnoresPorts.ite {f g : State → State} (c : State → Prop) [DecidablePred c]
    (hc : ∀ p s, c (s.withPorts p) ↔ c s) (hf : IgnoresPorts f) (hg : IgnoresPorts g) :
    IgnoresPorts (fun s => if c s then f s else g s) := by
  intro p s
  by_cases h : c s
  · simp only [hc, h, if_true, hf p s]
  · simp only [hc, h, if_false, hg p s]

theorem id_ignoresPorts : IgnoresPorts (fun s => s) := fun _ _ => rfl

theorem ack_ignoresPorts : IgnoresPorts ack := fun _ _ => rfl

theorem refuse_ignoresPorts : IgnoresPorts refuse := fun _ _ => rfl

theorem reloadHold_ignoresPorts (k : CurNum) : IgnoresPorts (reloadHold k) := fun _ _ => rfl

theorem raise_ignoresPorts (e : FatalError) : IgnoresPorts (raise e) := by
  intro p s
  cases h : e.isHardwareInit <;> simp [raise, endPart, respondErr, State.withPorts, h]

theorem onChannel_ignoresPorts (n : Chan) {f : State → State → State} (hf : IgnoresPorts (fun s => f s s)) :
    IgnoresPorts (fun s => onChannel n (f s) s) :=
  .ite (fun s => channelOpen s n = true) (fun _ _ => .rfl) (ack_ignoresPorts.comp hf) refuse_ignoresPorts

theorem whileIdle_ignoresPorts {f : State → State} (hf : IgnoresPorts f) : IgnoresPorts (whileIdle f) :=
  .ite (fun s => s.seqState = .idle) (fun _ _ => .rfl) (ack_ignoresPorts.comp hf) refuse_ignoresPorts

theorem drvSetDuty_ignoresPorts (n : Chan) (v : Int) : IgnoresPorts (drvSetDuty n v) := by
  intro p s
  simp only [drvSetDuty_eq_clampedWrite]
  unfold clampedWrite State.withPorts
  split_ifs <;> rfl

theorem applyStep_ignoresPorts (k : CurNum) : IgnoresPorts (applyStep k) := by
  have hchannel (f v n) : IgnoresPorts (applyChannel k f v n) :=
    have hemit : IgnoresPorts (fun t => emit (.step k n t.idx[k.val] f t.dutyValue[n.val]) t) := fun _ _ => rfl
    .ite (fun s => inSet s.curChm[k.val] n = true) (fun _ _ => .rfl) (hemit.comp (drvSetDuty_ignoresPorts n v))
      id_ignoresPorts
  intro p s
  exact ((hchannel (currentFrac s k) (currentDuty s k) 1).comp (hchannel (currentFrac s k) (currentDuty s k) 0)) p s

theorem startCursor_ignoresPorts (sel : Set2) (k : CurNum) : IgnoresPorts (startCursor sel k) :=
  have hplace : IgnoresPorts (placeCursor k) := fun _ _ => rfl
  .ite (fun _ => inSet sel k = true) (fun _ _ => .rfl)
    ((reloadHold_ignoresPorts k).comp ((applyStep_ignoresPorts k).comp hplace)) id_ignoresPorts

theorem startSequencer_ignoresPorts (sel : Set2) : IgnoresPorts (startSequencer sel) :=
  have hlatch : IgnoresPorts latched := fun _ _ => rfl
  (startCursor_ignoresPorts sel 1).comp ((startCursor_ignoresPorts sel 0).comp hlatch)

theorem cursorTick_ignoresPorts (k : CurNum) : IgnoresPorts (cursorTick k) :=
  have hdec : IgnoresPorts (decHold k) := fun _ _ => rfl
  have hmove : IgnoresPorts (fun s => { s with idx := s.idx.set k (nextOffset s k) }) := fun _ _ => rfl
  have hadvance : IgnoresPorts (advance k) := (reloadHold_ignoresPorts k).comp ((applyStep_ignoresPorts k).comp hmove)
  .ite (fun s => s.running[k.val] = true) (fun _ _ => .rfl)
    (.ite (fun s => (decHold k s).holdRem[k.val] = 0) (fun _ _ => .rfl) (hadvance.comp hdec) hdec) id_ignoresPorts

theorem msTick_ignoresPorts : IgnoresPorts msTick :=
  .ite (fun s => s.seqState = .running) (fun _ _ => .rfl)
    ((cursorTick_ignoresPorts 1).comp (cursorTick_ignoresPorts 0)) id_ignoresPorts

theorem timTick_ignoresPorts : IgnoresPorts timTick :=
  have hcounter : IgnoresPorts counterStep :=
    .ite (fun s => s.cnt.toNat + 1 < s.maxDuty.toNat) (fun _ _ => .rfl) (fun _ _ => rfl) (fun _ _ => rfl)
  have hclear : IgnoresPorts (fun s => { s with pscCnt := 0 }) := fun _ _ => rfl
  .ite (fun s => s.drvState = .configured) (fun _ _ => .rfl)
    (.ite (fun s => s.pscCnt.toNat + 1 < s.pscDiv.toNat) (fun _ _ => .rfl) (fun _ _ => rfl) (hcounter.comp hclear))
    id_ignoresPorts

/-- R136: validation looks at the program and the allocation only. -/
theorem validate_withPorts (p : Ports) (s : State) (sel : Set2) : validate (s.withPorts p) sel = validate s sel := by
  have hcursor (k : CurNum) : validateCursor (s.withPorts p) k = validateCursor s k := rfl
  simp only [validate, validateSelected, hcursor]

theorem tryStart_ignoresPorts (sel : Set2) : IgnoresPorts (tryStart sel) := by
  intro p s
  unfold tryStart
  rw [validate_withPorts]
  cases validate s sel with
  | none => exact (ack_ignoresPorts.comp (startSequencer_ignoresPorts sel)) p s
  | some e => exact raise_ignoresPorts e p s

/-- R50: every instruction but CONFIGURE is an effect that ignores the ports. -/
theorem exec_ignoresPorts {i : Instr} (hi : ∀ hz req, i ≠ .configure hz req) :
    ∃ f, (∀ s, exec i s = .next (f s)) ∧ IgnoresPorts f := by
  cases i with
  | configure hz req => exact absurd rfl (hi hz req)
  | seqStart sel =>
    exact ⟨_, fun _ => rfl, .ite (fun s => s.drvState = .configured ∧ s.seqState = .idle ∧ sel ≠ 0) (fun _ _ => .rfl)
      (tryStart_ignoresPorts sel) refuse_ignoresPorts⟩
  | enable n | disable n => exact ⟨_, fun _ => rfl, onChannel_ignoresPorts n fun _ _ => rfl⟩
  | setDuty n _ | setDutyFrac n _ =>
    exact ⟨_, fun _ => rfl, onChannel_ignoresPorts n fun p s => drvSetDuty_ignoresPorts n _ p s⟩
  | wrCursor k base len start chm | wrStepFrac e w | wrStepHold e w =>
    exact ⟨_, fun _ => rfl, whileIdle_ignoresPorts fun _ _ => rfl⟩
  | timTick => exact ⟨_, fun _ => rfl, timTick_ignoresPorts⟩
  | msTick => exact ⟨_, fun _ => rfl, msTick_ignoresPorts⟩
  | reset => exact ⟨_, fun _ => rfl, fun _ _ => rfl⟩
  | rdConfig | resolution | rdStatus | rdFault | rdFaultInfo | rdWarn | rdPscDiv | rdSeqStart | rdEn n | rdDuty n
  | rdCursor k | rdPos k | rdHold k | rdStepFrac e | rdStepHold e => exact ⟨_, fun _ => rfl, fun _ _ => rfl⟩

/-- Settles O11: an effect that ignores the ports ignores the two clock ports among them. -/
theorem onlyConfigureReadsClockPorts : Obligations.OnlyConfigureReadsClockPorts := by
  intro i s t v hz hi h
  obtain ⟨hports, -⟩ := exec_keeps_environment h
  obtain ⟨f, hf, hignores⟩ := exec_ignoresPorts hi
  obtain rfl : f s = t := Host.Outcome.next.inj ((hf s).symm.trans h)
  rw [hports, hf]
  exact congrArg _ (hignores { s.ports with clkValid := v, timclkHz := hz } s).symm

end Sys2Proof.Machine
end

section
/-! The invariants of R40 (10_state.md section 6): what each effect of the block does to them, and their preservation by
every event, every step and every run from RESET. -/

namespace Sys2Proof.Machine

open Sys2Proof.Claims

/-! ## The duty registers stay within the resolution (R28, R110) -/

/-- From `s` to `t` the resolution is as it was, and so is every preload duty that is not within it. -/
def DutyBounded (s t : State) : Prop :=
  t.maxDuty = s.maxDuty ∧
    ∀ n : Chan, t.dutyValue[n.val] = s.dutyValue[n.val] ∨ t.dutyValue[n.val].toNat ≤ s.maxDuty.toNat

theorem DutyBounded.of_eq {s t : State} (hmax : t.maxDuty = s.maxDuty) (hduty : t.dutyValue = s.dutyValue) :
    DutyBounded s t := ⟨hmax, fun n => .inl (by rw [hduty])⟩

theorem DutyBounded.trans {s t u : State} (hst : DutyBounded s t) (htu : DutyBounded t u) : DutyBounded s u := by
  obtain ⟨hmax, hduty⟩ := hst
  obtain ⟨hmax', hduty'⟩ := htu
  refine ⟨hmax'.trans hmax, fun n => ?_⟩
  rcases hduty' n with heq | hle
  · rw [heq]
    exact hduty n
  · exact .inr (hmax ▸ hle)

/-- R40 item 4 is kept by such a change. -/
theorem DutyBounded.le {s t : State} (h : DutyBounded s t) {n : Chan}
    (hle : s.dutyValue[n.val].toNat ≤ s.maxDuty.toNat) : t.dutyValue[n.val].toNat ≤ s.maxDuty.toNat := by
  rcases h.2 n with heq | hle'
  · rwa [heq]
  · exact hle'

theorem dutyBounded_drvSetDuty (n : Chan) (v : Int) (s : State) : DutyBounded s (drvSetDuty n v s) := by
  refine ⟨drvSetDuty_maxDuty s n v, fun m => ?_⟩
  rw [drvSetDuty_dutyValue]
  by_cases hm : m = n
  · right
    simpa [hm] using dutyOf_le v s.maxDuty
  · left
    exact getElem_set_of_ne _ _ hm

theorem dutyBounded_applyStep (k : CurNum) (s : State) : DutyBounded s (applyStep k s) := by
  refine ⟨applyStep_maxDuty s k, fun n => ?_⟩
  rw [applyStep_dutyValue]
  split
  · exact .inr (dutyOf_le _ _)
  · exact .inl rfl

/-- An apply between two writes of the cursor's position and hold. -/
theorem dutyBounded_reload_apply (k : CurNum) {s t : State} (h : DutyBounded s t) :
    DutyBounded s (reloadHold k (applyStep k t)) :=
  h.trans ((dutyBounded_applyStep k t).trans (.of_eq rfl rfl))

theorem dutyBounded_startCursor (sel : Set2) (k : CurNum) (s : State) : DutyBounded s (startCursor sel k s) := by
  rcases startCursor_cases sel k s with ⟨-, h⟩ | ⟨-, h⟩ <;> rw [h]
  · exact .of_eq rfl rfl
  · exact dutyBounded_reload_apply k (.of_eq rfl rfl)

theorem dutyBounded_startSequencer (sel : Set2) (s : State) : DutyBounded s (startSequencer sel s) :=
  have hlatch : DutyBounded s (latched s) := .of_eq rfl rfl
  (hlatch.trans (dutyBounded_startCursor sel 0 _)).trans (dutyBounded_startCursor sel 1 _)

theorem dutyBounded_cursorTick (k : CurNum) (s : State) : DutyBounded s (cursorTick k s) := by
  rcases cursorTick_cases k s with ⟨-, h⟩ | ⟨-, -, h⟩ | ⟨-, -, h⟩ <;> rw [h]
  · exact .of_eq rfl rfl
  · exact .of_eq rfl rfl
  · exact dutyBounded_reload_apply k (.of_eq rfl rfl)

theorem dutyBounded_msTick (s : State) : DutyBounded s (msTick s) := by
  unfold msTick
  split
  · exact (dutyBounded_cursorTick _ _).trans (dutyBounded_cursorTick _ _)
  · exact .of_eq rfl rfl

/-- Settles O54: the writers are bounded by the clamp, and no other event touches the preload registers. -/
theorem dutyValueWriters : Obligations.DutyValueWriters := by
  intro i s t n h hne
  have bounded {u : State} (hu : DutyBounded s u) (hduty : t.dutyValue = u.dutyValue) :
      t.dutyValue[n.val].toNat ≤ s.maxDuty.toNat := by
    simp only [hduty] at hne ⊢
    exact (hu.2 n).resolve_left hne
  rcases exec_cases h with ⟨w, r, -, rfl⟩ | ⟨r, d, -, rfl⟩ | ⟨hz, req, e, -, -, -, -, -, rfl⟩ |
    ⟨hz, req, p, m, -, -, -, -, -, -, rfl⟩ | ⟨sel, e, -, -, -, -, -, -, rfl⟩ | ⟨sel, hi, -, -, -, -, rfl⟩ |
    ⟨m, b, -, -, -, rfl⟩ | ⟨m, v, hi, -, -, rfl⟩ | ⟨k, base, len, start, chm, -, -, rfl⟩ | ⟨e, w, -, -, rfl⟩ |
    ⟨e, w, -, -, rfl⟩ | ⟨-, rfl⟩ | ⟨hi, rfl⟩ | ⟨hi, -⟩
  · exact absurd rfl hne
  · exact absurd rfl hne
  · exact absurd (by simp) hne
  · exact absurd rfl hne
  · exact absurd (by simp) hne
  · exact .inr ⟨.inr (.inl ⟨sel, hi⟩), bounded (dutyBounded_startSequencer sel s) rfl⟩
  · exact absurd rfl hne
  · obtain rfl : n = m := by
      by_contra hm
      exact hne (by simp [getElem_set_of_ne _ _ hm])
    have hle := bounded (dutyBounded_drvSetDuty n v s) rfl
    rcases hi with ⟨w, rfl, -⟩ | ⟨f, rfl, -⟩
    · exact .inr ⟨.inr (.inr (.inl ⟨w, rfl⟩)), hle⟩
    · exact .inr ⟨.inr (.inr (.inr ⟨f, rfl⟩)), hle⟩
  · exact absurd rfl hne
  · exact absurd rfl hne
  · exact absurd rfl hne
  · exact absurd (by simp) hne
  · exact .inr ⟨.inl hi, bounded (dutyBounded_msTick s) rfl⟩
  · exact .inl hi

/-! ## What the invariants do not speak of -/

/-- `s` with what R40 does not speak of cleared: `FAULT.usage`, WARN, the event stream, the response and the model's
own fields for the environment. -/
def State.core (s : State) : State :=
  { s with faultUsage := false, warnSat := .replicate 2 false, log := [], resp := none, ports := .quiet, coming := [],
           dividers := [] }

theorem invariants_core (s : State) : Invariants s.core ↔ Invariants s := by
  constructor <;> exact fun h => { h with
    legal := { h.legal with }
    driver_clear := fun hdrv => { h.driver_clear hdrv with }
    cursors := fun k hk => { h.cursors k hk with } }

theorem Invariants.of_core_eq {s t : State} (hinv : Invariants s) (h : t.core = s.core) : Invariants t :=
  (invariants_core t).1 (h ▸ (invariants_core s).2 hinv)

/-! ## RESET -/

/-- Settles O59: at reset the driver is Unconfigured with every register 0, nothing has failed and no cursor runs. -/
theorem resetHasInvariants : Obligations.ResetHasInvariants where
  legal := ⟨.inl rfl, by decide, by decide, by decide, by decide⟩
  unconfigured_zero := fun _ => ⟨rfl, rfl, rfl⟩
  configured_iff := by decide
  configured_timer := nofun
  driver_clear := fun _ => ⟨by decide, by decide, by decide, rfl, rfl, rfl⟩
  duty_le := by decide
  enabled_alloc := by decide
  counters := nofun
  hwinit_iff := by decide
  invalid_iff := by decide
  fatal_info := fun _ => ⟨rfl, rfl, rfl⟩
  cursors := fun k hk => absurd hk (by revert k; decide)

theorem invariants_resetAll (s : State) : Invariants (resetAll s) := resetHasInvariants.of_core_eq rfl

/-! ## The driver's effects -/

section
variable {s : State} (hinv : Invariants s)
include hinv

/-- R40 item 7: before the driver is configured no cursor runs. -/
theorem Invariants.not_running_of_idle (hidle : s.seqState = .idle) (k : CurNum) : s.running[k.val] = false :=
  hinv.running_eq_false (by simp [hidle]) k

/-- R100, R172: a HardwareInitError keeps them: the driver was Unconfigured, so its registers are clear. -/
theorem Invariants.hwInitFailed (hun : s.drvState = .unconfigured) {c : BitVec 4} (hc : c.toNat ≤ 9) :
    Invariants (hwInitFailed c s) := by
  have hdrv : s.drvState ≠ .configured := by simp [hun]
  have hclear := hinv.driver_clear hdrv
  have hmax : ¬ 1 ≤ s.maxDuty.toNat := by simp [hinv.maxDuty_eq_zero hdrv]
  exact { hinv with
    legal := { hinv.legal with cause_le := hc, step_le := by simp [Claims.hwInitFailed] }
    unconfigured_zero := fun _ => hinv.unconfigured_zero hdrv
    configured_iff := iff_of_false nofun hmax
    configured_timer := nofun
    driver_clear := fun _ => { hclear with }
    counters := nofun
    hwinit_iff := iff_of_true rfl rfl
    fatal_info := nofun
    cursors := fun k hk => { hinv.cursors k hk with } }

/-- R100: a successful CONFIGURE establishes items 2 to 5 for its divider pair. -/
theorem Invariants.configured (hun : s.drvState = .unconfigured) {hz : BitVec 16} {req : Set2} {p m : Nat}
    (hhz : hz = 50) (hreq : req ≠ 0) (hp : 1 ≤ p) (hp' : p ≤ 65536) (hm : 1 ≤ m) (hm' : m ≤ 65536) :
    Invariants (configureTimer hz req p m s) := by
  have hdrv : s.drvState ≠ .configured := by simp [hun]
  have hclear := hinv.driver_clear hdrv
  have hpsc : (BitVec.ofNat 17 p).toNat = p := Nat.mod_eq_of_lt (by omega)
  have hmax : (BitVec.ofNat 17 m).toNat = m := Nat.mod_eq_of_lt (by omega)
  have hidle : s.seqState = .idle := hclear.seq
  have hhw : s.faultHwinit = false := by simp [Bool.eq_false_iff, hinv.hwinit_iff, hun]
  exact { hinv with
    legal := { hinv.legal with
      carrier := .inr hhz
      psc_le := hpsc.trans_le hp'
      max_le := hmax.trans_le hm' }
    unconfigured_zero := fun h => absurd rfl h
    configured_iff := iff_of_true rfl (hm.trans_eq hmax.symm)
    configured_timer := fun _ => ⟨hp.trans_eq hpsc.symm, hhz, hreq⟩
    driver_clear := fun h => absurd rfl h
    duty_le := fun n => ⟨by simp [configureTimer, hclear.duty n], by simp [configureTimer]⟩
    enabled_alloc := fun n hn => absurd hn (by simp [configureTimer, hclear.enabled n])
    counters := fun _ => ⟨hm.trans_eq hmax.symm, hp.trans_eq hpsc.symm⟩
    hwinit_iff := iff_of_false (by simp [configureTimer, hhw]) nofun
    cursors := fun k hk => absurd hk (by simp [configureTimer, hinv.not_running_of_idle hidle k]) }

/-- R106, R107: ENABLE and DISABLE of an allocated channel keep item 6. -/
theorem Invariants.withEnabled (hconf : s.drvState = .configured) {n : Chan} (hn : inSet s.alloc n = true) (b : Bool) :
    Invariants { s with enabled := s.enabled.set n b } where
  __ := hinv
  legal := { hinv.legal with }
  driver_clear := fun h => absurd hconf h
  enabled_alloc := fun m hm => by
    by_cases hmn : m = n
    · exact hmn ▸ hn
    · exact hinv.enabled_alloc m (by simpa [getElem_set_of_ne _ _ hmn] using hm)
  cursors := fun k hk => { hinv.cursors k hk with }

/-- R110: a duty write keeps item 4. -/
theorem Invariants.drvSetDuty (hconf : s.drvState = .configured) (n : Chan) (v : Int) :
    Invariants (drvSetDuty n v s) := by
  have hcore : (Machine.drvSetDuty n v s).core =
      { s with dutyValue := s.dutyValue.set n (dutyOf v s.maxDuty) }.core := by
    rcases drvSetDuty_cases n v s with ⟨-, h⟩ | ⟨d, -, h⟩
    · rw [h]
    · rw [h]
      rfl
  have hle (m : Chan) : (s.dutyValue.set n (dutyOf v s.maxDuty))[m.val].toNat ≤ s.maxDuty.toNat := by
    rw [← drvSetDuty_dutyValue]
    exact (dutyBounded_drvSetDuty n v s).le (hinv.duty_le m).1
  have hwritten : Invariants { s with dutyValue := s.dutyValue.set n (dutyOf v s.maxDuty) } := { hinv with
    legal := { hinv.legal with }
    driver_clear := fun h => absurd hconf h
    duty_le := fun m => ⟨hle m, (hinv.duty_le m).2⟩
    cursors := fun k hk => { hinv.cursors k hk with } }
  exact hwritten.of_core_eq hcore

/-- R150 to R153: a configured timer with its counters below their ends and `duty_active` within the resolution. -/
theorem Invariants.withTimer (hconf : s.drvState = .configured) {psc cnt : BitVec 16} {active : Vector DutyWord 2}
    (hpsc : psc.toNat < s.pscDiv.toNat) (hcnt : cnt.toNat < s.maxDuty.toNat)
    (hactive : ∀ n : Chan, active[n.val].toNat ≤ s.maxDuty.toNat) :
    Invariants { s with pscCnt := psc, cnt := cnt, dutyActive := active } where
  __ := hinv
  legal := { hinv.legal with }
  driver_clear := fun h => absurd hconf h
  duty_le := fun n => ⟨(hinv.duty_le n).1, hactive n⟩
  counters := fun _ => ⟨hcnt, hpsc⟩
  cursors := fun k hk => { hinv.cursors k hk with }

theorem Invariants.timTick : Invariants (timTick s) := by
  have hactive (n : Chan) := (hinv.duty_le n).2
  have hvalue (n : Chan) := (hinv.duty_le n).1
  have hsucc {m : Nat} (x : BitVec 16) (hx : x.toNat + 1 < m) : (x + 1).toNat < m :=
    Nat.lt_of_le_of_lt (by rw [BitVec.toNat_add]; exact Nat.mod_le _ _) hx
  rcases timTick_cases s with ⟨-, h⟩ | ⟨hconf, hpsc, h⟩ | ⟨hconf, -, hcnt, h⟩ | ⟨hconf, -, -, h⟩ <;> rw [h]
  · exact hinv
  · exact hinv.withTimer hconf (hsucc _ hpsc) (hinv.counters hconf).1 hactive
  · exact hinv.withTimer hconf (hinv.configured_timer hconf).1 (hsucc _ hcnt) hactive
  · exact hinv.withTimer hconf (hinv.configured_timer hconf).1 (hinv.configured_iff.1 hconf) hvalue

/-! ## The sequencer's effects -/

/-- R130, R131, R133: in Idle the program may change, for no cursor runs. -/
theorem Invariants.withProgram (hidle : s.seqState = .idle) (frac hold : Vector Word 16)
    (base len start : Vector (BitVec 8) 2) (chm : Vector Set2 2) :
    Invariants { s with stepFrac := frac, stepHold := hold, curBase := base, curLen := len, curStart := start,
                        curChm := chm } where
  __ := hinv
  legal := { hinv.legal with }
  driver_clear := fun h => { hinv.driver_clear h with }
  cursors := fun k hk => absurd hk (by simp [hinv.not_running_of_idle hidle k])

/-- R173: an InvalidStepError keeps them: the sequencer was Idle, so no cursor runs. -/
theorem Invariants.stepInvalid (hconf : s.drvState = .configured) (hidle : s.seqState = .idle) {c : BitVec 4}
    {k : CurNum} {i : BitVec 8} (hc : c.toNat ≤ 9) (hi : i.toNat ≤ 15) : Invariants (stepInvalid c k i s) where
  __ := hinv
  legal := { hinv.legal with cause_le := hc, step_le := hi }
  driver_clear := fun h => absurd hconf h
  invalid_iff := iff_of_true rfl rfl
  fatal_info := fun h => absurd h (by simp [fatal, Claims.stepInvalid])
  cursors := fun k hk => absurd hk (by simp [Claims.stepInvalid, hinv.not_running_of_idle hidle k])

/-- R135: the latch keeps them, for no cursor runs yet. -/
theorem Invariants.latched (hconf : s.drvState = .configured) (hidle : s.seqState = .idle) :
    Invariants (latched s) where
  __ := hinv
  legal := { hinv.legal with }
  driver_clear := fun h => absurd hconf h
  invalid_iff := iff_of_false (by simp [Machine.latched, hinv.invalid_iff, hidle]) nofun
  cursors := fun k hk => absurd hk (by simp [Machine.latched, hinv.not_running_of_idle hidle k])

/-- R135, R157: positions, holds, running bits and duties may change as long as items 4 and 7 hold. -/
theorem Invariants.withStarted (hconf : s.drvState = .configured) {t : State} (hduty : DutyBounded s t)
    (hcur : ∀ k : CurNum, t.running[k.val] = true → CursorOk (withStarted s t) k) : Invariants (withStarted s t) where
  __ := hinv
  legal := { hinv.legal with }
  driver_clear := fun h => absurd hconf h
  duty_le := fun n => ⟨hduty.le (hinv.duty_le n).1, (hinv.duty_le n).2⟩
  cursors := hcur

end

/-! ## The running cursors (R40 item 7) -/

section
variable {s : State} {k : CurNum}

/-- R136: the entries of a valid cursor's Sequence are table entries with legal words. -/
theorem steps_of_cursorValid (h : CursorValid s k) (i : StepIdx) (hlo : s.curBase[k.val].toNat ≤ i.val)
    (hhi : i.val < s.curBase[k.val].toNat + s.curLen[k.val].toNat) :
    s.stepFrac[i.val].toNat ≤ Config.fracOne ∧ 1 ≤ s.stepHold[i.val].toNat := by
  obtain ⟨-, -, -, -, hentries⟩ := h
  obtain ⟨hfrac, hhold⟩ := hentries i ⟨hlo, hhi⟩
  rw [FracOk, tableFrac_lt s i.isLt] at hfrac
  rw [HoldOk, tableHold_lt s i.isLt] at hhold
  exact ⟨hfrac, one_le_toNat_of_ne_zero hhold⟩

/-- R40 item 7: every hold of a running cursor's Sequence is at least 1. -/
theorem CursorOk.one_le_stepHoldOf (h : CursorOk s k) {j : Nat} (hj : j < s.curLen[k.val].toNat) :
    1 ≤ stepHoldOf s k j := by
  have hlt : s.curBase[k.val].toNat + j < 16 := Nat.lt_of_lt_of_le (Nat.add_lt_add_left hj _) h.range_le
  obtain ⟨-, hhold⟩ := h.steps ⟨_, hlt⟩ (Nat.le_add_right _ _) (Nat.add_lt_add_left hj _)
  rw [stepHoldOf, tableHold_lt s hlt]
  exact hhold

/-- R135: SEQ_START puts a valid cursor at the start of its Sequence. -/
theorem cursorOk_startSequencer {sel : Set2} (hvalid : CursorValid s k) (hk : inSet sel k = true) :
    CursorOk (withStarted (latched s) (startSequencer sel s)) k where
  seq_running := rfl
  idx_lt := by
    obtain ⟨-, -, hstart, -⟩ := hvalid
    simp only [withStarted, startSequencer_idx, hk, if_true]
    exact hstart
  range_le := by
    obtain ⟨-, hrange, -⟩ := hvalid
    exact hrange
  hold_pos := by
    obtain ⟨-, -, hstart, -, hentries⟩ := hvalid
    obtain ⟨-, hhold⟩ := hentries _ ⟨Nat.le_add_right _ _, Nat.add_lt_add_left hstart _⟩
    simpa only [withStarted, startSequencer_holdRem, hk, if_true] using one_le_toNat_of_ne_zero hhold
  latch := rfl
  steps := steps_of_cursorValid hvalid

/-- R158 to R160: a millisecond leaves a running cursor within its Sequence with a hold of at least 1. -/
theorem CursorOk.msTick (h : CursorOk s k) (hk : s.running[k.val] = true) :
    CursorOk (withStarted s (cursorTick 1 (cursorTick 0 s))) k where
  __ := h
  idx_lt := by
    simp only [withStarted, cursorTicks_idx]
    split
    · exact h.nextOffset_toNat ▸ h.nextIdx_lt
    · exact h.idx_lt
  hold_pos := by
    simp only [withStarted, cursorTicks_holdRem, h.nextOffset_toNat, hk, if_true]
    split
    · exact h.one_le_stepHoldOf h.nextIdx_lt
    · rename_i hdue
      have hone : s.holdRem[k.val] - 1 ≠ 0 := fun hzero => hdue ((isDue_iff s k).2 ⟨hk, sub_eq_zero.1 hzero⟩)
      exact one_le_toNat_of_ne_zero hone

end

section
variable {s : State} (hinv : Invariants s)
include hinv

theorem Invariants.startSequencer (hconf : s.drvState = .configured) (hidle : s.seqState = .idle) {sel : Set2}
    (hval : validate s sel = none) : Invariants (startSequencer sel s) := by
  rw [startSequencer_frame hval]
  refine (hinv.latched hconf hidle).withStarted hconf (dutyBounded_startSequencer sel s) fun k hk => ?_
  have hsel : inSet sel k = true := by simpa [startSequencer_running, hinv.not_running_of_idle hidle k] using hk
  exact cursorOk_startSequencer ((validate_eq_none_iff s sel).1 hval k hsel) hsel

theorem Invariants.msTick : Invariants (msTick s) := by
  by_cases hseq : s.seqState = .running
  · have hconf := hinv.configured_of_not_idle (by simp [hseq])
    have htick : Machine.msTick s = cursorTick 1 (cursorTick 0 s) := if_pos hseq
    have hframe : Machine.msTick s = Machine.withStarted s (Machine.msTick s) := by
      rw [Machine.withStarted, msTick_running, htick]
      exact cursorTicks_frame hinv
    rw [hframe]
    refine hinv.withStarted hconf (dutyBounded_msTick s) fun k hk => ?_
    rw [msTick_running] at hk
    exact htick ▸ (hinv.cursors k hk).msTick hk
  · have hstopped : Machine.msTick s = s := if_neg hseq
    rwa [hstopped]

end

/-! ## Every event keeps them -/

/-- R171: the causes are 1 to 9. -/
theorem FatalError.code_le (e : FatalError) : e.code.toNat ≤ 9 := by
  cases e <;> simp [FatalError.code]

/-- R136: the entry that a failure records lies in the step table. -/
theorem entry_le_of_firstFailure {s : State} {e : FatalError} (h : FirstFailureOf s e) : e.entry ≤ 15 := by
  have in_table {k : CurNum} {i : Nat} (hpass : PassesBefore s k i) : i ≤ 15 := by
    obtain ⟨-, hrange, -, -, ⟨-, hhi⟩, -⟩ := hpass
    exact Nat.le_of_lt_succ (Nat.lt_of_lt_of_le hhi hrange)
  cases e with
  | fractionRange k i | holdZero k i =>
    obtain ⟨hpass, -⟩ := h
    exact in_table hpass
  | _ => exact Nat.zero_le 15

theorem Invariants.raise_of_validate {s : State} (hinv : Invariants s) (hconf : s.drvState = .configured)
    (hidle : s.seqState = .idle) {sel : Set2} {e : FatalError} (he : validate s sel = some e) :
    Invariants (raise e s) := by
  obtain ⟨hfirst, -⟩ := ((validationFindsFirstFailure s sel).2 e).1 he
  rw [raise_invalidStep (validate_some he)]
  exact hinv.stepInvalid hconf hidle e.code_le ((Nat.mod_le _ _).trans (entry_le_of_firstFailure hfirst))

/-- R40 items 1 to 7: every event keeps the invariants. -/
theorem Invariants.exec {i : Instr} {s t : State} (hinv : Invariants s) (h : exec i s = .next t) : Invariants t := by
  rcases exec_cases h with ⟨w, r, -, rfl⟩ | ⟨r, d, -, rfl⟩ | ⟨hz, req, e, -, he, hun, -, -, rfl⟩ |
    ⟨hz, req, p, m, -, hun, hhz, hreq, -, hpair, rfl⟩ | ⟨sel, e, -, hconf, hidle, -, he, -, rfl⟩ |
    ⟨sel, -, hconf, hidle, -, hval, rfl⟩ | ⟨n, b, -, hconf, hn, rfl⟩ | ⟨n, v, -, hconf, -, rfl⟩ |
    ⟨k, base, len, start, chm, -, hidle, rfl⟩ | ⟨e, w, -, hidle, rfl⟩ | ⟨e, w, -, hidle, rfl⟩ | ⟨-, rfl⟩ | ⟨-, rfl⟩ |
    ⟨-, rfl⟩
  · exact hinv.of_core_eq rfl
  · exact hinv.of_core_eq rfl
  · exact raise_hardwareInit he s ▸ hinv.hwInitFailed hun e.code_le
  · obtain ⟨hp, hp', hm, hm', -⟩ := deriveDividers_exact hpair
    exact (hinv.configured hun (BitVec.eq_of_toNat_eq hhz) hreq hp hp' hm hm').of_core_eq rfl
  · exact hinv.raise_of_validate hconf hidle he
  · exact (hinv.startSequencer hconf hidle hval).of_core_eq rfl
  · exact (hinv.withEnabled hconf hn b).of_core_eq rfl
  · exact (hinv.drvSetDuty hconf n v).of_core_eq rfl
  · exact (hinv.withProgram hidle _ _ _ _ _ _).of_core_eq rfl
  · exact (hinv.withProgram hidle _ _ _ _ _ _).of_core_eq rfl
  · exact (hinv.withProgram hidle _ _ _ _ _ _).of_core_eq rfl
  · exact hinv.timTick
  · exact hinv.msTick
  · exact invariants_resetAll s

/-! ## Every step keeps them -/

theorem invariants_step {s t : State} (hinv : Invariants s) (h : step s = .next t) : Invariants t := by
  have hports (p : Ports) : Invariants { s with ports := p } := hinv.of_core_eq rfl
  rcases step_cases s with ⟨i, e, -, hstep, -⟩ | ⟨w, r, -, -, hstep⟩ | ⟨-, hstep⟩ <;> rw [hstep] at h
  · exact (hports _).exec h
  · cases h
    exact (hports (takeEvent (.bus w) s.ports)).of_core_eq rfl
  · cases h
    rcases nextCycle_cases s with ⟨p, rest, -, hnext⟩ | ⟨-, hnext⟩ <;> rw [hnext]
    · exact hinv.of_core_eq rfl
    · exact hinv

theorem rst_of_nextEvent {p : Ports} (h : nextEvent p = some .rst) : p.rst = true := by
  rcases nextEvent_cases p with ⟨hrst, -⟩ | ⟨t, -, -, hp⟩ | ⟨-, -, -, hp⟩ | ⟨-, -, -, -, hp⟩ | ⟨-, -, -, -, hp⟩
  · exact hrst
  all_goals simp [h] at hp

/-- R8: without `rst` the step's event is not RESET, and no transaction word selects it. -/
theorem ne_reset_of_nextEvent {p : Ports} {e : Event} {i : Instr} (hrst : p.rst = false) (he : nextEvent p = some e)
    (hi : e = .rst ∧ i = .reset ∨ (∃ t, e = .bus t ∧ decode t = .ok i) ∨ e = .msTick ∧ i = .msTick ∨
      e = .timTick ∧ i = .timTick) : i ≠ .reset := by
  rcases hi with ⟨rfl, -⟩ | ⟨t, -, hd⟩ | ⟨-, rfl⟩ | ⟨-, rfl⟩
  · simp [rst_of_nextEvent he] at hrst
  · obtain ⟨r, d, -, htr⟩ := decode_transaction hd
    exact ne_reset_of_transaction htr
  · nofun
  · nofun

/-- R40 item 8: no step but a RESET writes a started program. -/
theorem step_sameProgram {s t : State} (h : step s = .next t) (hlocked : s.seqState ≠ .idle)
    (hrst : s.ports.rst = false) : SameProgram s t := by
  rcases step_cases s with ⟨i, e, he, hstep, hi⟩ | ⟨w, r, -, -, hstep⟩ | ⟨-, hstep⟩ <;> rw [hstep] at h
  · exact exec_sameProgram (s := { s with ports := takeEvent e s.ports }) h hlocked (ne_reset_of_nextEvent hrst he hi)
  · cases h
    exact ⟨rfl, rfl, rfl, rfl, rfl, rfl⟩
  · cases h
    rcases nextCycle_cases s with ⟨p, rest, -, hnext⟩ | ⟨-, hnext⟩ <;> rw [hnext] <;>
      exact ⟨rfl, rfl, rfl, rfl, rfl, rfl⟩

/-- Settles O58: a step is an event, a refusal or the arrival of the next cycle's ports. -/
theorem stepKeepsInvariants : Obligations.StepKeepsInvariants :=
  fun _ _ hinv h => ⟨invariants_step hinv h, step_sameProgram h⟩

/-! ## Runs -/

theorem invariants_run {n : Nat} {s t : State} (hinv : Invariants s) (h : core.run n s = .next t) : Invariants t := by
  induction n generalizing s with
  | zero =>
    cases h
    exact hinv
  | succ n ih =>
    obtain ⟨-, hsteps, -⟩ := everyEventCompletes
    obtain ⟨u, hu⟩ := hsteps s
    exact ih (invariants_step hinv hu) (core_run_succ hu n ▸ h)

/-- Settles O60: RESET establishes the invariants from any state, and steps keep them. -/
theorem runsFromResetHaveInvariants : Obligations.RunsFromResetHaveInvariants := by
  intro s u t n hu hrun
  cases hu
  exact ⟨invariants_run (invariants_resetAll s) hrun, fun v hv => step_sameProgram hv⟩

end Sys2Proof.Machine
end

section
/-! The numbers of 40_driver_ops.md: the default dividers (R103), the fraction mapper (R113) and its accuracy (R121). -/

namespace Sys2Proof.Machine

open Sys2Proof.Claims

/-! ## The default of `derive_dividers` (R103) -/

/-- R103: the loop stops at the first prescaler that fits. -/
theorem defaultDividers_eq_some_iff (t hz p m : Nat) :
    defaultDividers t hz = some (p, m) ↔
      hz ≠ 0 ∧ t % hz = 0 ∧ t / hz ≠ 0 ∧ 1 ≤ p ∧ p ≤ 65536 ∧ t / hz % p = 0 ∧ m = t / hz / p ∧ m ≤ 65536 ∧
        ∀ q, 1 ≤ q → q < p → ¬ (t / hz % q = 0 ∧ t / hz / q ≤ 65536) := by
  have hfind (r : Nat) : (List.range' 1 65536).find? (prescalerFits (t / hz)) = some r ↔
      (t / hz % r = 0 ∧ t / hz / r ≤ 65536) ∧ (1 ≤ r ∧ r ≤ 65536) ∧
        ∀ q, 1 ≤ q → q < r → ¬ (t / hz % q = 0 ∧ t / hz / q ≤ 65536) := by
    simp only [List.find?_range'_eq_some, List.mem_range'_1, prescalerFits_iff, Bool.not_eq_true', ← Bool.not_eq_true,
      Nat.lt_add_one_iff, show 1 + 65536 = 65536 + 1 from rfl]
  constructor
  · intro h
    rcases defaultDividers_cases t hz with ⟨hnone, -⟩ | ⟨r, hhz, hdvd, htotal, hloop, hpair⟩
    · simp [hnone] at h
    · obtain ⟨rfl, rfl⟩ : r = p ∧ t / hz / r = m := by simpa [hpair] using h
      obtain ⟨⟨hmod, hle⟩, ⟨hr1, hr2⟩, hleast⟩ := (hfind r).1 hloop
      exact ⟨hhz, hdvd, htotal, hr1, hr2, hmod, rfl, hle, hleast⟩
  · rintro ⟨hhz, hdvd, htotal, hp1, hp2, hmod, rfl, hle, hleast⟩
    have hloop := (hfind p).2 ⟨⟨hmod, hle⟩, ⟨hp1, hp2⟩, hleast⟩
    rcases defaultDividers_cases t hz with ⟨-, hcause⟩ | ⟨r, -, -, -, hloop', hpair⟩
    · simp only [hhz, hdvd, htotal, hloop, ne_eq, not_true, reduceCtorEq, or_self] at hcause
    · obtain rfl : p = r := by simpa [hloop] using hloop'
      exact hpair

/-- R103: the timer clock has to be a positive multiple of the carrier frequency. -/
theorem defaultDividers_of_not_multiple {t hz : Nat} (h : t % hz ≠ 0 ∨ t / hz = 0) : defaultDividers t hz = none := by
  rw [Option.eq_none_iff_forall_ne_some]
  rintro ⟨p, m⟩ hpair
  obtain ⟨-, hdvd, htotal, -⟩ := (defaultDividers_eq_some_iff t hz p m).1 hpair
  tauto

/-- R103: a frame of a prime number of cycles above 65536 has no pair, for it is not a product of two numbers below. -/
theorem defaultDividers_of_prime {t hz : Nat} (hprime : (t / hz).Prime) (hbig : 65536 < t / hz) :
    defaultDividers t hz = none := by
  rw [Option.eq_none_iff_forall_ne_some]
  rintro ⟨p, m⟩ hpair
  obtain ⟨-, -, -, -, hp, hmod, rfl, hm, -⟩ := (defaultDividers_eq_some_iff t hz p m).1 hpair
  rcases (Nat.dvd_prime hprime).1 (Nat.dvd_of_mod_eq_zero hmod) with rfl | rfl
  · omega
  · omega

/-- Settles O19: the loop's search, and the listed values by it: 63 smaller prescalers do not fit at 200 MHz, and 65537
is prime. -/
theorem defaultDividersTakeSmallestPrescaler : Obligations.DefaultDividersTakeSmallestPrescaler := by
  have first {t m : Nat} (h : t % 50 = 0 ∧ t / 50 = m ∧ m ≠ 0 ∧ m ≤ 65536) : defaultDividers t 50 = some (1, m) := by
    obtain ⟨hdvd, rfl, hpos, hle⟩ := h
    exact (defaultDividers_eq_some_iff _ _ _ _).2 ⟨by decide, hdvd, hpos, le_rfl, by decide, Nat.mod_one _,
      (Nat.div_one _).symm, hle, fun q hq hq' => by omega⟩
  refine ⟨defaultDividers_eq_some_iff, deriveDividers_nil, first (by decide), first (by decide), first (by decide),
    ?prescaled, defaultDividers_of_not_multiple (.inl (by decide)), defaultDividers_of_prime (by norm_num) (by decide),
    defaultDividers_of_not_multiple (.inr (by decide))⟩
  case prescaled =>
    rw [defaultDividers_eq_some_iff]
    decide

/-! ## The fraction mapper (R113) -/

theorem fracToDuty_eq (f m : Nat) : fracToDuty f m = (f * m + 32768) / 65536 := rfl

/-- R113: rounding to nearest is truncation and a round bit. -/
theorem fracToDuty_eq_truncated (f m : Nat) :
    fracToDuty f m = f * m / 65536 + if 32768 ≤ f * m % 65536 then 1 else 0 := by
  rw [fracToDuty_eq]
  split <;> omega

theorem fracToDuty_mono {f₁ f₂ : Nat} (m : Nat) (h : f₁ ≤ f₂) : fracToDuty f₁ m ≤ fracToDuty f₂ m :=
  Nat.div_le_div_right (Nat.add_le_add_right (Nat.mul_le_mul_right m h) _)

/-- R113: a 32-bit fraction word and a resolution need 49 bits for the rounded sum. -/
theorem fracToDuty_width {f m : Nat} (hf : f < 2 ^ 32) (hm : m ≤ 2 ^ 16) :
    f * m + 32768 < 2 ^ 49 ∧ fracToDuty f m < 2 ^ 33 := by
  have hprod : f * m ≤ (2 ^ 32 - 1) * 2 ^ 16 := Nat.mul_le_mul (by omega) hm
  rw [fracToDuty_eq]
  omega

/-- A quotient by 65536, rounded to nearest with ties up, is within half a unit of the exact one. -/
theorem round_error (a : Nat) : -(1 / 2 : ℚ) < ((a + 32768) / 65536 : Nat) - (a : ℚ) / 65536 ∧
    (((a + 32768) / 65536 : Nat) : ℚ) - (a : ℚ) / 65536 ≤ 1 / 2 := by
  have hlo : a + 32768 < 65536 * ((a + 32768) / 65536) + 65536 := by omega
  have hhi : 65536 * ((a + 32768) / 65536) ≤ a + 32768 := by omega
  generalize (a + 32768) / 65536 = q at hlo hhi ⊢
  have hlo' : (a : ℚ) + 32768 < 65536 * q + 65536 := by exact_mod_cast hlo
  have hhi' : 65536 * (q : ℚ) ≤ a + 32768 := by exact_mod_cast hhi
  constructor <;> linarith

theorem fracToDuty_error (f m : Nat) : -(1 / 2 : ℚ) < (fracToDuty f m : ℚ) - (f : ℚ) * m / 65536 ∧
    (fracToDuty f m : ℚ) - (f : ℚ) * m / 65536 ≤ 1 / 2 := by
  have h := round_error (f * m)
  rwa [Nat.cast_mul] at h

/-- At the full resolution the mapper is the identity. -/
theorem fracToDuty_full_resolution (f : Nat) : fracToDuty f 65536 = f := by
  rw [fracToDuty_eq]
  omega

/-- Settles O26: the laws, each of which is a fact about rounding, and the listed values by evaluation. -/
theorem fractionMapperLaws : Obligations.FractionMapperLaws := by
  refine ⟨fracToDuty_eq, fun f m => fracToDuty_width, fun m => ⟨?zero, ?one⟩, fun f₁ f₂ m => fracToDuty_mono m,
    fracToDuty_error, fun f m => fracToDuty_le, fracToDuty_eq_truncated, by decide⟩
  case zero => simp [fracToDuty_eq]
  case one =>
    rw [fracToDuty_eq]
    omega

/-! ## Round-trip accuracy (R121) -/

theorem fracToDuty_abs_error (f m : Nat) : |(fracToDuty f m : ℚ) - (f : ℚ) / 65536 * m| ≤ 1 / 2 := by
  obtain ⟨hlo, hhi⟩ := fracToDuty_error f m
  rw [show (f : ℚ) / 65536 * m = (f : ℚ) * m / 65536 by ring]
  exact abs_le.2 ⟨hlo.le, hhi⟩

/-- Dividing by the resolution turns the error of the duty into that of its ratio. -/
theorem fracToDuty_ratio_error (f : Nat) {m : Nat} (hm : 1 ≤ m) :
    |(fracToDuty f m : ℚ) / m - (f : ℚ) / 65536| ≤ 1 / (2 * m) := by
  have hpos : (0 : ℚ) < m := by exact_mod_cast hm
  have hratio : (fracToDuty f m : ℚ) / m - (f : ℚ) / 65536 = ((fracToDuty f m : ℚ) - (f : ℚ) / 65536 * m) / m := by
    field_simp
  rw [hratio, abs_div, abs_of_pos hpos, div_le_iff₀ hpos]
  calc |(fracToDuty f m : ℚ) - (f : ℚ) / 65536 * m| ≤ 1 / 2 := fracToDuty_abs_error f m
    _ = 1 / (2 * m) * m := by field_simp

/-- R92: the literal is the nearest encoding of the decimal fraction. -/
theorem fracLiteral_error (num : Nat) {den : Nat} (hden : 1 ≤ den) :
    |(fracLiteral num den : ℚ) / 65536 - (num : ℚ) / den| ≤ 1 / 131072 := by
  have hpos : (0 : ℚ) < den := by exact_mod_cast hden
  have hlo := Nat.lt_mul_div_succ (2 * num * 65536 + den) (show 0 < 2 * den by omega)
  have hhi := Nat.mul_div_le (2 * num * 65536 + den) (2 * den)
  change 2 * num * 65536 + den < 2 * den * (fracLiteral num den + 1) at hlo
  change 2 * den * fracLiteral num den ≤ 2 * num * 65536 + den at hhi
  have hlo' : 2 * (num : ℚ) * 65536 + den < 2 * den * (fracLiteral num den + 1) := by exact_mod_cast hlo
  have hhi' : 2 * (den : ℚ) * fracLiteral num den ≤ 2 * num * 65536 + den := by exact_mod_cast hhi
  have hdiff : (fracLiteral num den : ℚ) / 65536 - (num : ℚ) / den =
      (den * fracLiteral num den - 65536 * num) / (65536 * den) := by
    field_simp
  rw [hdiff, abs_le, le_div_iff₀ (by positivity), div_le_iff₀ (by positivity)]
  constructor <;> linarith

/-- R121: the errors of the literal and of the mapper add up to less than one unit: at the full resolution the mapper is
exact, and below it the literal's part is less than one half. -/
theorem fracToDuty_fracLiteral_error {num den m : Nat} (hden : 1 ≤ den) (hm : 1 ≤ m) (hm' : m ≤ 65536) :
    |(fracToDuty (fracLiteral num den) m : ℚ) - (num : ℚ) / den * m| < 1 := by
  have hpos : (0 : ℚ) < m := by exact_mod_cast hm
  have hlit : |((fracLiteral num den : ℚ) / 65536 - (num : ℚ) / den) * m| ≤ 1 / 131072 * m := by
    rw [abs_mul, abs_of_pos hpos]
    exact mul_le_mul_of_nonneg_right (fracLiteral_error num hden) hpos.le
  have hsplit : (fracToDuty (fracLiteral num den) m : ℚ) - (num : ℚ) / den * m =
      ((fracToDuty (fracLiteral num den) m : ℚ) - (fracLiteral num den : ℚ) / 65536 * m) +
        ((fracLiteral num den : ℚ) / 65536 - (num : ℚ) / den) * m := by ring
  rw [hsplit]
  refine (abs_add_le _ _).trans_lt ?_
  rcases hm'.lt_or_eq with hlt | rfl
  · have hlt' : (m : ℚ) < 65536 := by exact_mod_cast hlt
    have hmap := fracToDuty_abs_error (fracLiteral num den) m
    linarith
  · have hexact :
        (fracToDuty (fracLiteral num den) 65536 : ℚ) - (fracLiteral num den : ℚ) / 65536 * (65536 : Nat) = 0 := by
      rw [fracToDuty_full_resolution]
      push_cast
      ring
    rw [hexact]
    norm_num at hlit ⊢
    linarith

/-- Settles O27: the mapper's rounding error, and the error of the literal on top of it. -/
theorem roundTripAccuracy : Obligations.RoundTripAccuracy :=
  ⟨fun f m _ hm => ⟨fracToDuty_abs_error f m, fracToDuty_ratio_error f hm⟩,
    fun num _ _ hden _ hm hm' => ⟨fracLiteral_error num hden, fracToDuty_fracLiteral_error hden hm hm'⟩⟩

end Sys2Proof.Machine
end

section
/-! The register space under writes: an accepted write of one register changes the words at its own offsets only (R41, R60,
R81). -/

namespace Sys2Proof.Machine

open Sys2Proof.Claims

/-- R60: the word at an offset is that of the register there. -/
theorem memWord_congr {s t : State} {a : Offset} (h : ∀ r : Reg, r.offset = a → regWord t r = regWord s r) :
    memWord t a = memWord s a := by
  cases hreg : regAt a with
  | error e => simp [memWord, hreg]
  | ok r => simp [memWord, hreg, h r (offset_of_regAt hreg)]

theorem memWord_offset (s : State) (r : Reg) : memWord s r.offset = regWord s r := by
  simp [memWord]

section
variable {s : State} {a : Offset}

theorem memWord_set_stepFrac {i : StepIdx} (w : Word) (ha : a ≠ (Reg.stepFrac i).offset) :
    memWord { s with stepFrac := s.stepFrac.set i w } a = memWord s a := by
  refine memWord_congr fun r hr => ?_
  cases r with
  | stepFrac e =>
    have he : e ≠ i := by rintro rfl; exact ha hr.symm
    exact congrArg some (getElem_set_of_ne _ w he)
  | _ => rfl

theorem memWord_set_stepHold {i : StepIdx} (w : Word) (ha : a ≠ (Reg.stepHold i).offset) :
    memWord { s with stepHold := s.stepHold.set i w } a = memWord s a := by
  refine memWord_congr fun r hr => ?_
  cases r with
  | stepHold e =>
    have he : e ≠ i := by rintro rfl; exact ha hr.symm
    exact congrArg some (getElem_set_of_ne _ w he)
  | _ => rfl

theorem memWord_set_cursor {k : CurNum} (base len start : BitVec 8) (chm : Set2) (ha : a ≠ (Reg.curSeq k).offset) :
    memWord { s with curBase := s.curBase.set k base, curLen := s.curLen.set k len,
                     curStart := s.curStart.set k start, curChm := s.curChm.set k chm } a = memWord s a := by
  refine memWord_congr fun r hr => ?_
  cases r with
  | curSeq j =>
    have hj : j ≠ k := by rintro rfl; exact ha hr.symm
    simp only [regWord, cursorWord, getElem_set_of_ne _ _ hj]
  | _ => rfl

theorem memWord_withEnabled {n : Chan} (b : Bool) (ha : a ≠ (Reg.chEn n).offset) :
    memWord (withEnabled n b s) a = memWord s a := by
  refine memWord_congr fun r hr => ?_
  cases r with
  | chEn m =>
    have hm : m ≠ n := by rintro rfl; exact ha hr.symm
    simp only [regWord, enWord, withEnabled, getElem_set_of_ne _ _ hm]
  | _ => rfl

/-- R110: a duty write shows in CHn_DUTY, and in WARN when it clamps. -/
theorem memWord_drvSetDuty {n : Chan} (v : Int) (ha : a ≠ (Reg.chDuty n).offset) (hwarn : a ≠ Reg.warn.offset) :
    memWord (drvSetDuty n v s) a = memWord s a := by
  refine memWord_congr fun r hr => ?_
  cases r with
  | chDuty m =>
    have hm : m ≠ n := by rintro rfl; exact ha hr.symm
    simp only [regWord, dutyWord, drvSetDuty_dutyValue, getElem_set_of_ne _ _ hm]
  | warn => exact absurd hr.symm hwarn
  | _ => rcases drvSetDuty_cases n v s with ⟨-, h⟩ | ⟨d, -, h⟩ <;> rw [h] <;> rfl

end

/-- The state after an accepted operation, read off its equation. -/
theorem memWord_of_exec {i : Instr} {s t u : State} (h : exec i s = .next t) (hu : exec i s = .next (ack u))
    (a : Offset) : memWord t a = memWord u a := by
  cases h.symm.trans hu
  exact memWord_respond 0 u a

/-- Settles O30: each write is one update of the state, which one register's word shows. -/
theorem writesChangeOneOffset : Obligations.WritesChangeOneOffset := by
  refine fun s t => ⟨fun i w hidle h => ?frac, fun i w hidle h => ?hold, fun k b l st c hidle h a ha => ?cursor,
    fun n hopen h a ha => ?enable, fun n w hopen h a ha hwarn => ?duty⟩
  case frac =>
    have hword := memWord_of_exec h (congrArg _ (whileIdle_idle _ hidle))
    refine ⟨(hword _).trans ?_, fun a ha => (hword a).trans (memWord_set_stepFrac w ha)⟩
    simp [memWord_offset, regWord]
  case hold =>
    have hword := memWord_of_exec h (congrArg _ (whileIdle_idle _ hidle))
    refine ⟨(hword _).trans ?_, fun a ha => (hword a).trans (memWord_set_stepHold w ha)⟩
    simp [memWord_offset, regWord]
  case cursor =>
    exact (memWord_of_exec h (congrArg _ (whileIdle_idle _ hidle)) a).trans (memWord_set_cursor b l st c ha)
  case enable =>
    rcases h with h | h
    · cases (exec_enable_of_open hopen).symm.trans h
      exact memWord_withEnabled true ha
    · cases (exec_disable_of_open hopen).symm.trans h
      exact memWord_withEnabled false ha
  case duty =>
    rcases h with h | h
    · exact (memWord_of_exec h (congrArg _ (onChannel_of_open _ hopen)) a).trans (memWord_drvSetDuty _ ha hwarn)
    · exact (memWord_of_exec h (congrArg _ (onChannel_of_open _ hopen)) a).trans (memWord_drvSetDuty _ ha hwarn)

end Sys2Proof.Machine
end

section
/-! The PWM frame (R150 to R154): TIM_TICKs in a row from the start of a frame, and the width of the pulse. -/

namespace Sys2Proof.Machine

open Sys2Proof.Claims

theorem timTicks_succ (j : Nat) (s : State) : timTicks (j + 1) s = timTick (timTicks j s) := by
  induction j generalizing s with
  | zero => rfl
  | succ j ih => exact ih (timTick s)

/-- One more tick: the remainder counts up, or returns to 0 as the quotient takes a step. -/
theorem succ_div_mod_cases {p : Nat} (hp : 0 < p) (j : Nat) :
    (j % p + 1 < p ∧ (j + 1) / p = j / p ∧ (j + 1) % p = j % p + 1) ∨
    (j % p + 1 = p ∧ (j + 1) / p = j / p + 1 ∧ (j + 1) % p = 0) := by
  have hlt := Nat.mod_lt j hp
  have hj := Nat.mod_add_div j p
  by_cases hlast : j % p + 1 = p
  · exact .inr ⟨hlast, (Nat.div_mod_unique hp).2 ⟨by rw [Nat.mul_succ]; omega, hp⟩⟩
  · exact .inl ⟨by omega, (Nat.div_mod_unique hp).2 ⟨by omega, by omega⟩⟩

/-- The state of a frame that started at `s`, `j` TIM_TICKs later. -/
def inFrame (s : State) (j : Nat) : State :=
  { s with cnt := BitVec.ofNat 16 (j / s.pscDiv.toNat), pscCnt := BitVec.ofNat 16 (j % s.pscDiv.toNat) }

theorem withCounts_zero {s : State} (hcnt : s.cnt = 0) (hpsc : s.pscCnt = 0) :
    { s with cnt := 0, pscCnt := 0 } = s := by
  cases s
  cases hcnt
  cases hpsc
  rfl

theorem inFrame_zero {s : State} (hcnt : s.cnt = 0) (hpsc : s.pscCnt = 0) : inFrame s 0 = s := by
  rw [inFrame, Nat.zero_div, Nat.zero_mod]
  exact withCounts_zero hcnt hpsc

section
variable {s : State} (hinv : Invariants s)
include hinv

theorem inFrame_cnt {j : Nat} (hj : j < s.pscDiv.toNat * s.maxDuty.toNat) :
    (inFrame s j).cnt.toNat = j / s.pscDiv.toNat := by
  have hlt : j / s.pscDiv.toNat < s.maxDuty.toNat := Nat.div_lt_of_lt_mul hj
  have hmax : s.maxDuty.toNat ≤ 65536 := hinv.legal.max_le
  exact Nat.mod_eq_of_lt (by omega)

variable (hconf : s.drvState = .configured)
include hconf

theorem inFrame_pscCnt (j : Nat) : (inFrame s j).pscCnt.toNat = j % s.pscDiv.toNat := by
  obtain ⟨hpos, -⟩ := hinv.configured_timer hconf
  have hlt := Nat.mod_lt j hpos
  have hpsc : s.pscDiv.toNat ≤ 65536 := hinv.legal.psc_le
  exact Nat.mod_eq_of_lt (by omega)

/-- R151: within a frame the prescaler counts up to its last value, and then the counter takes one step. -/
theorem timTick_inFrame {j : Nat} (hj : j + 1 < s.pscDiv.toNat * s.maxDuty.toNat) :
    timTick (inFrame s j) = inFrame s (j + 1) := by
  obtain ⟨hpos, -⟩ := hinv.configured_timer hconf
  have hpsc := inFrame_pscCnt hinv hconf j
  have hcnt := inFrame_cnt hinv (Nat.lt_of_succ_lt hj)
  have hdiv : (j + 1) / s.pscDiv.toNat < s.maxDuty.toNat := Nat.div_lt_of_lt_mul hj
  have htick : timTick (inFrame s j) = timerTick (inFrame s j) := if_pos hconf
  rcases succ_div_mod_cases hpos j with ⟨hlt, hquot, hrem⟩ | ⟨hlast, hquot, hrem⟩
  · rw [htick, timerTick_prescales (hpsc ▸ hlt), ← ofNat_toNat_add_one, hpsc, ← hrem]
    simp only [inFrame, hquot]
  · have hcount : (inFrame s j).cnt.toNat + 1 < s.maxDuty.toNat := by omega
    rw [htick, timerTick_counts (hpsc ▸ hlast.ge) hcount, ← ofNat_toNat_add_one, hcnt, ← hquot]
    simp only [inFrame, hrem]
    rfl

/-- R152: the last tick of a frame finds both counters at their last values. -/
theorem frameEnds_inFrame {j : Nat} (hj : j + 1 = s.pscDiv.toNat * s.maxDuty.toNat) : FrameEnds (inFrame s j) := by
  obtain ⟨hpos, -⟩ := hinv.configured_timer hconf
  have hpsc := inFrame_pscCnt hinv hconf j
  have hcnt := inFrame_cnt hinv (show j < _ by omega)
  have hmod : (j + 1) % s.pscDiv.toNat = 0 := hj ▸ Nat.mul_mod_right _ _
  have hdiv : (j + 1) / s.pscDiv.toNat = s.maxDuty.toNat := hj ▸ Nat.mul_div_cancel_left _ hpos
  rcases succ_div_mod_cases hpos j with ⟨-, -, hrem⟩ | ⟨hlast, hquot, -⟩
  · omega
  · exact ⟨hconf, (hpsc ▸ hlast.ge), by rw [hcnt, ← hquot, hdiv]; exact le_rfl⟩

variable (hcnt : s.cnt = 0) (hpsc : s.pscCnt = 0)
include hcnt hpsc

theorem timTicks_eq_inFrame {j : Nat} (hj : j < s.pscDiv.toNat * s.maxDuty.toNat) : timTicks j s = inFrame s j := by
  induction j with
  | zero => exact (inFrame_zero hcnt hpsc).symm
  | succ j ih => rw [timTicks_succ, ih (Nat.lt_of_succ_lt hj), timTick_inFrame hinv hconf hj]

/-- R152, R153: after a whole frame both counters are 0 again, and the next frame has its duties. -/
theorem timTicks_frame :
    timTicks (s.pscDiv.toNat * s.maxDuty.toNat) s = { s with dutyActive := s.dutyValue } := by
  obtain ⟨hp, -⟩ := hinv.configured_timer hconf
  have hm : 1 ≤ s.maxDuty.toNat := hinv.configured_iff.1 hconf
  obtain ⟨j, hj⟩ := Nat.exists_eq_add_one.2 (Nat.mul_pos hp hm)
  rw [hj, timTicks_succ, timTicks_eq_inFrame hinv hconf hcnt hpsc (by omega),
    timTick_of_frameEnds (frameEnds_inFrame hinv hconf hj.symm)]
  exact congrArg (fun u : State => { u with dutyActive := s.dutyValue }) (withCounts_zero hcnt hpsc)

/-- R154: the output of an enabled channel compares the quotient of the tick with the active duty. -/
theorem pwmOut_timTicks {n : Chan} (hen : s.enabled[n.val] = true) {j : Nat}
    (hj : j < s.pscDiv.toNat * s.maxDuty.toNat) :
    pwmOut (timTicks j s) n = true ↔ j < s.dutyActive[n.val].toNat * s.pscDiv.toNat := by
  obtain ⟨hpos, -⟩ := hinv.configured_timer hconf
  have halloc : s.alloc.getLsbD n.val = true := hinv.enabled_alloc n hen
  rw [timTicks_eq_inFrame hinv hconf hcnt hpsc hj, pwmOut_eq_true, inFrame_cnt hinv hj,
    ← Nat.div_lt_iff_lt_mul hpos]
  exact ⟨fun ⟨_, _, _, hlt⟩ => hlt, fun hlt => ⟨hconf, halloc, hen, hlt⟩⟩

end

/-- Settles O35: by induction on the ticks, the counters are the quotient and the remainder. -/
theorem frameIsPscTimesMaxTicks : Obligations.FrameIsPscTimesMaxTicks := fun _ hinv hconf hcnt hpsc =>
  ⟨fun _ => timTicks_eq_inFrame hinv hconf hcnt hpsc, timTicks_frame hinv hconf hcnt hpsc⟩

/-- Settles O36: no tick is below a duty of 0, and every tick of the frame is below `max_duty`. -/
theorem pulseIsDutyTicksWide : Obligations.PulseIsDutyTicksWide := by
  intro s n hinv hconf hen hcnt hpsc
  have hout {j : Nat} := pwmOut_timTicks hinv hconf hcnt hpsc hen (j := j)
  refine ⟨fun j => hout, fun hzero j hj => ?low, fun hmax j hj => ?high⟩
  case low => simp [Bool.eq_false_iff, hout hj, hzero]
  case high => rwa [hout hj, hmax, Nat.mul_comm]

end Sys2Proof.Machine
end

section
/-! The sequencer at work (41_sequencer_ops.md, 42_autonomous_steps.md): apply (R137), the independence of the cursors
(R142), and what a cursor does over MS_TICKs in a row (R161, R162). -/

namespace Sys2Proof.Machine

open Sys2Proof.Claims

/-! ## Apply (R137) -/

theorem applyChannel_eq_appliedTo (k : CurNum) (f : Word) (v : Nat) (n : Chan) (s : State) :
    applyChannel k f v n s = appliedTo k f v n s := by
  unfold appliedTo
  rcases applyChannel_cases k f v n s with ⟨hc, h⟩ | ⟨hc, h⟩ <;> rw [h]
  · exact (if_neg (Bool.eq_false_iff.1 hc)).symm
  · rw [if_pos (show s.curChm[k.val].getLsbD n.val = true from hc), ← drvSetDuty_eq_clampedWrite]
    simp [emit]

/-- R113, R137: the fraction of a running cursor's step is legal, so its duty is in range. -/
theorem CursorOk.currentDuty_le {s : State} {k : CurNum} (h : CursorOk s k) : currentDuty s k ≤ s.maxDuty.toNat :=
  Machine.currentDuty_le k s h.latch (h.fracOk h.idx_lt)

/-- Settles O33: apply is its loop body for channel 0 and then for channel 1, and a running cursor's duty needs no
clamp. -/
theorem applyWritesTheCursorsChannels : Obligations.ApplyWritesTheCursorsChannels := by
  rintro k s f v rfl rfl
  refine ⟨?body, fun hinv hk => ?derived⟩
  case body =>
    rw [← applyChannel_eq_appliedTo, ← applyChannel_eq_appliedTo]
    rfl
  case derived =>
    have hle := (hinv.cursors k hk).currentDuty_le
    refine ⟨hle, ?_⟩
    rw [applyStep_in_range k s hle]

/-! ## The independence of the cursors (R142) -/

/-- A SEQ_START of `sel` in state `s` starts cursor k (R135). -/
def Starts (s : State) (sel : Set2) (k : CurNum) : Prop :=
  s.drvState = .configured ∧ s.seqState = .idle ∧ validate s sel = none ∧ inSet sel k = true

theorem exec_seqStart_of_starts {s t : State} {sel : Set2} {k : CurNum} (h : exec (.seqStart sel) s = .next t)
    (hk : Starts s sel k) : t.idx[k.val] = s.curStart[k.val] ∧
      t.holdRem[k.val] = tableHold s (s.curBase[k.val].toNat + s.curStart[k.val].toNat) ∧ t.running[k.val] = true := by
  obtain ⟨hconf, hidle, hval, hset⟩ := hk
  have hsel : sel ≠ 0 := by rintro rfl; simp [inSet] at hset
  cases (exec_seqStart_valid hconf hidle hsel hval).symm.trans h
  simp [startSequencer_idx, startSequencer_holdRem, startSequencer_running, hset]

theorem exec_seqStart_of_not_starts {s t : State} {sel : Set2} {k : CurNum} (h : exec (.seqStart sel) s = .next t)
    (hk : ¬ Starts s sel k) : t.idx[k.val] = s.idx[k.val] ∧ t.holdRem[k.val] = s.holdRem[k.val] ∧
      t.running[k.val] = s.running[k.val] := by
  rcases execSeqStart_cases h with rfl | ⟨e, -, -, -, -, -, rfl⟩ | ⟨hconf, hidle, -, hval, rfl⟩
  · simp
  · simp
  · have hset : inSet sel k = false := Bool.eq_false_iff.2 fun hset => hk ⟨hconf, hidle, hval, hset⟩
    simp [startSequencer_idx, startSequencer_holdRem, startSequencer_running, hset]

/-- `s` with cursor j's position, hold and running bit replaced. -/
def withCursor (j : CurNum) (x : BitVec 8) (h : Word) (r : Bool) (s : State) : State :=
  { s with idx := s.idx.set j x, holdRem := s.holdRem.set j h, running := s.running.set j r }

section
variable {j k : CurNum} (hjk : j ≠ k) (x : BitVec 8) (h : Word) (r : Bool) (s : State)
include hjk

theorem withCursor_idx : (withCursor j x h r s).idx[k.val] = s.idx[k.val] := getElem_set_of_ne _ _ hjk.symm

theorem withCursor_holdRem : (withCursor j x h r s).holdRem[k.val] = s.holdRem[k.val] := getElem_set_of_ne _ _ hjk.symm

theorem withCursor_running : (withCursor j x h r s).running[k.val] = s.running[k.val] := getElem_set_of_ne _ _ hjk.symm

theorem isDue_withCursor : isDue (withCursor j x h r s) k = isDue s k := by
  rw [isDue, isDue, withCursor_running hjk, withCursor_holdRem hjk]

theorem nextOffset_withCursor : nextOffset (withCursor j x h r s) k = nextOffset s k := by
  rw [nextOffset, nextOffset, withCursor_idx hjk]
  rfl

/-- R142: what a millisecond does to cursor k depends on its own cells only. -/
theorem msTick_withCursor : (msTick (withCursor j x h r s)).idx[k.val] = (msTick s).idx[k.val] ∧
    (msTick (withCursor j x h r s)).holdRem[k.val] = (msTick s).holdRem[k.val] ∧
    (msTick (withCursor j x h r s)).running[k.val] = (msTick s).running[k.val] := by
  refine ⟨?idx, ?hold, ?running⟩
  case idx =>
    rw [msTick_idx, msTick_idx, isDue_withCursor hjk, nextOffset_withCursor hjk, withCursor_idx hjk]
    rfl
  case hold =>
    rw [msTick_holdRem, msTick_holdRem, isDue_withCursor hjk, nextOffset_withCursor hjk, withCursor_holdRem hjk,
      withCursor_running hjk]
    rfl
  case running => simp only [msTick_running, withCursor_running hjk]

end

/-- R136: validation looks at no cursor's position. -/
theorem validate_withCursor (j : CurNum) (x : BitVec 8) (h : Word) (r : Bool) (s : State) (sel : Set2) :
    validate (withCursor j x h r s) sel = validate s sel := by
  have hcursor (k : CurNum) : validateCursor (withCursor j x h r s) k = validateCursor s k := rfl
  simp only [validate, validateSelected, hcursor]

theorem starts_withCursor (j : CurNum) (x : BitVec 8) (h : Word) (r : Bool) (s : State) (sel : Set2) (k : CurNum) :
    Starts (withCursor j x h r s) sel k ↔ Starts s sel k := by
  rw [Starts, Starts, validate_withCursor]
  exact .rfl

/-- Settles O39: SEQ_START starts cursor k or leaves it, whatever the other cursor's cells, and MS_TICK too looks at
cursor k's own cells only. -/
theorem cursorsAreIndependent : Obligations.CursorsAreIndependent := by
  rintro s s' k j x h r hjk rfl i (rfl | ⟨sel, rfl⟩) t t' ht ht'
  · cases ht
    cases ht'
    exact msTick_withCursor hjk x h r s
  · by_cases hstarts : Starts s sel k
    · obtain ⟨hidx, hhold, hrun⟩ := exec_seqStart_of_starts ht hstarts
      obtain ⟨hidx', hhold', hrun'⟩ := exec_seqStart_of_starts ht' ((starts_withCursor j x h r s sel k).2 hstarts)
      exact ⟨hidx'.trans hidx.symm, hhold'.trans hhold.symm, hrun'.trans hrun.symm⟩
    · obtain ⟨hidx, hhold, hrun⟩ := exec_seqStart_of_not_starts ht hstarts
      obtain ⟨hidx', hhold', hrun'⟩ :=
        exec_seqStart_of_not_starts ht' (mt (starts_withCursor j x h r s sel k).1 hstarts)
      exact ⟨(hidx'.trans (withCursor_idx hjk x h r s)).trans hidx.symm,
        (hhold'.trans (withCursor_holdRem hjk x h r s)).trans hhold.symm,
        (hrun'.trans (withCursor_running hjk x h r s)).trans hrun.symm⟩

/-! ## MS_TICKs in a row: what stays -/

theorem msTicks_succ (n : Nat) (s : State) : msTicks (n + 1) s = msTick (msTicks n s) := by
  induction n generalizing s with
  | zero => rfl
  | succ n ih => exact ih (msTick s)

theorem msTicks_add (m n : Nat) (s : State) : msTicks (m + n) s = msTicks n (msTicks m s) := by
  induction n with
  | zero => rfl
  | succ n ih => rw [← Nat.add_assoc, msTicks_succ, msTicks_succ, ih]

theorem invariants_msTicks {s : State} (hinv : Invariants s) (n : Nat) : Invariants (msTicks n s) := by
  induction n with
  | zero => exact hinv
  | succ n ih => exact msTicks_succ n s ▸ ih.msTick

section
variable (n : Nat) (s : State)

@[simp] theorem msTicks_running : (msTicks n s).running = s.running := by
  induction n with
  | zero => rfl
  | succ n ih => rw [msTicks_succ, msTick_running, ih]

@[simp] theorem msTicks_curBase : (msTicks n s).curBase = s.curBase := by
  induction n with
  | zero => rfl
  | succ n ih => rw [msTicks_succ, msTick_curBase, ih]

@[simp] theorem msTicks_curLen : (msTicks n s).curLen = s.curLen := by
  induction n with
  | zero => rfl
  | succ n ih => rw [msTicks_succ, msTick_curLen, ih]

@[simp] theorem msTicks_stepHold : (msTicks n s).stepHold = s.stepHold := by
  induction n with
  | zero => rfl
  | succ n ih => rw [msTicks_succ, msTick_stepHold, ih]

@[simp] theorem stepHoldOf_msTicks (k : CurNum) (j : Nat) : stepHoldOf (msTicks n s) k j = stepHoldOf s k j := by
  simp [stepHoldOf, tableHold_congr (msTicks_stepHold n s)]

end

/-! ## One hold (R161) -/

section
variable {s : State} {k : CurNum} (hinv : Invariants s) (hk : s.running[k.val] = true)
include hinv hk

/-- R158: a running cursor's millisecond that does not end its hold. -/
theorem msTick_waits (hhold : s.holdRem[k.val].toNat ≠ 1) : (msTick s).idx[k.val] = s.idx[k.val] ∧
    (msTick s).holdRem[k.val].toNat + 1 = s.holdRem[k.val].toNat := by
  have hok := hinv.cursors k hk
  have hne : s.holdRem[k.val] ≠ 1 := fun h => hhold (by simp [h])
  have hdue : isDue s k = false := (isDue_eq_false_iff s k).2 fun h => hne h.2
  simp only [msTick_idx, msTick_holdRem, hdue, hok.seq_running, hk, Bool.false_eq_true, and_false, and_self, if_true,
    if_false, hok.holdRem_sub_one]

/-- R159, R160: the millisecond that ends its hold. -/
theorem msTick_advances (hhold : s.holdRem[k.val].toNat = 1) : (msTick s).idx[k.val].toNat = nextIdx s k ∧
    (msTick s).holdRem[k.val].toNat = stepHoldOf s k (nextIdx s k) := by
  have hok := hinv.cursors k hk
  have hdue : isDue s k = true := (isDue_iff s k).2 ⟨hk, BitVec.eq_of_toNat_eq hhold⟩
  simp [msTick_idx, msTick_holdRem, hdue, hok.seq_running, hok.nextOffset_toNat, stepHoldOf]

theorem msTicks_within_hold {j : Nat} (hj : j < s.holdRem[k.val].toNat) :
    (msTicks j s).idx[k.val] = s.idx[k.val] ∧ (msTicks j s).holdRem[k.val].toNat + j = s.holdRem[k.val].toNat := by
  induction j with
  | zero => exact ⟨rfl, rfl⟩
  | succ j ih =>
    obtain ⟨hidx, hhold⟩ := ih (Nat.lt_of_succ_lt hj)
    obtain ⟨hidx', hhold'⟩ := msTick_waits (invariants_msTicks hinv j) (by simpa using hk) (by omega)
    rw [msTicks_succ]
    exact ⟨hidx'.trans hidx, by omega⟩

theorem msTicks_hold : (msTicks s.holdRem[k.val].toNat s).idx[k.val].toNat = nextIdx s k ∧
    (msTicks s.holdRem[k.val].toNat s).holdRem[k.val].toNat = stepHoldOf s k (nextIdx s k) := by
  obtain ⟨j, hj⟩ := Nat.exists_eq_add_one.2 (hinv.cursors k hk).hold_pos
  obtain ⟨hidx, hhold⟩ := msTicks_within_hold hinv hk (j := j) (by omega)
  have hnext : nextIdx (msTicks j s) k = nextIdx s k := by simp [nextIdx, hidx]
  have hlast := msTick_advances (invariants_msTicks hinv j) (k := k) (by simpa using hk) (by omega)
  rwa [hnext, stepHoldOf_msTicks, ← msTicks_succ, ← hj] at hlast

end

/-- Settles O40: the milliseconds before the last one wait, and the last one advances. -/
theorem holdLastsExactly : Obligations.HoldLastsExactly :=
  fun _ _ hinv hk => ⟨fun _ => msTicks_within_hold hinv hk, msTicks_hold hinv hk⟩

/-! ## The circular run (R162) -/

section
variable {s : State} {k : CurNum} (hinv : Invariants s) (hk : s.running[k.val] = true)
include hinv hk

/-- R162: at its (j + 1)-th advance the cursor stands at its (j + 1)-th offset, with that step's whole hold to go. -/
theorem msTicks_at_advance (j : Nat) :
    (msTicks (ticksToAdvance s k (j + 1)) s).idx[k.val].toNat = (s.idx[k.val].toNat + (j + 1)) % s.curLen[k.val].toNat ∧
    (msTicks (ticksToAdvance s k (j + 1)) s).holdRem[k.val].toNat =
      stepHoldOf s k ((s.idx[k.val].toNat + (j + 1)) % s.curLen[k.val].toNat) := by
  induction j with
  | zero => exact msTicks_hold hinv hk
  | succ j ih =>
    obtain ⟨hidx, hhold⟩ := ih
    have hnext : nextIdx (msTicks (ticksToAdvance s k (j + 1)) s) k =
        (s.idx[k.val].toNat + (j + 1 + 1)) % s.curLen[k.val].toNat := by
      simp only [nextIdx, hidx, msTicks_curLen, Nat.mod_add_mod, Nat.add_assoc]
    have hrun := msTicks_hold (invariants_msTicks hinv (ticksToAdvance s k (j + 1))) (k := k) (by simpa using hk)
    rwa [hnext, stepHoldOf_msTicks, hhold, ← msTicks_add] at hrun

/-- R162: between two advances the cursor does not move. -/
theorem msTicks_between_advances {j n : Nat} (hlo : ticksToAdvance s k j ≤ n) (hhi : n < ticksToAdvance s k (j + 1)) :
    (msTicks n s).idx[k.val].toNat = (s.idx[k.val].toNat + j) % s.curLen[k.val].toNat := by
  cases j with
  | zero =>
    obtain ⟨hidx, -⟩ := msTicks_within_hold hinv hk hhi
    rw [hidx, Nat.add_zero, Nat.mod_eq_of_lt (hinv.cursors k hk).idx_lt]
  | succ j =>
    obtain ⟨hidx, hhold⟩ := msTicks_at_advance hinv hk j
    obtain ⟨m, rfl⟩ := Nat.exists_eq_add_of_le hlo
    have hm : m < (msTicks (ticksToAdvance s k (j + 1)) s).holdRem[k.val].toNat := by
      rw [hhold]
      exact Nat.lt_of_add_lt_add_left hhi
    obtain ⟨hidx', -⟩ := msTicks_within_hold (invariants_msTicks hinv _) (by simpa using hk) hm
    rw [msTicks_add, hidx', hidx]

/-- R158, R159: in one millisecond a running cursor moves by one offset when its hold ends, else by none. -/
theorem msTick_idx_modEq : (msTick s).idx[k.val].toNat ≡
    s.idx[k.val].toNat + (if s.holdRem[k.val].toNat = 1 then 1 else 0) [MOD s.curLen[k.val].toNat] := by
  split
  · rename_i hhold
    obtain ⟨hidx, -⟩ := msTick_advances hinv hk hhold
    exact hidx ▸ Nat.mod_modEq _ _
  · rename_i hhold
    obtain ⟨hidx, -⟩ := msTick_waits hinv hk hhold
    rw [hidx]
    rfl

end

/-- What makes two running cursors move together: one range, and one hold for all its steps. -/
structure InStep (s : State) : Prop where
  inv : Invariants s
  running : ∀ k : CurNum, s.running[k.val] = true
  base : s.curBase[0] = s.curBase[1]
  len : s.curLen[0] = s.curLen[1]
  uniform : ∀ j, j < s.curLen[0].toNat → stepHoldOf s 0 j = stepHoldOf s 0 0

section
variable {s : State} (h : InStep s)
include h

theorem InStep.msTicks (n : Nat) : InStep (msTicks n s) where
  inv := invariants_msTicks h.inv n
  running := by simpa using h.running
  base := by simpa using h.base
  len := by simpa using h.len
  uniform := by simpa using h.uniform

/-- Every step of either cursor has the one hold. -/
theorem InStep.stepHoldOf_nextIdx (k : CurNum) : stepHoldOf s k (nextIdx s k) = stepHoldOf s 0 0 := by
  have hlt := (h.inv.cursors k (h.running k)).nextIdx_lt
  rcases Fin.exists_fin_two.1 ⟨k, rfl⟩ with rfl | rfl
  · exact h.uniform _ hlt
  · have hbase : stepHoldOf s 1 (nextIdx s 1) = stepHoldOf s 0 (nextIdx s 1) :=
      congrArg (fun b : BitVec 8 => (tableHold s (b.toNat + nextIdx s 1)).toNat) h.base.symm
    rw [hbase]
    exact h.uniform _ (h.len ▸ hlt)

/-- Equal holds stay equal: both count down, or both are reloaded with the one hold. -/
theorem InStep.msTick_holdRem (hhold : s.holdRem[0] = s.holdRem[1]) :
    (msTick s).holdRem[0] = (msTick s).holdRem[1] := by
  apply BitVec.eq_of_toNat_eq
  by_cases hone : s.holdRem[0].toNat = 1
  · have hone' : s.holdRem[1].toNat = 1 := hhold ▸ hone
    obtain ⟨-, h0⟩ := msTick_advances h.inv (h.running 0) hone
    obtain ⟨-, h1⟩ := msTick_advances h.inv (h.running 1) hone'
    exact (h0.trans (h.stepHoldOf_nextIdx 0)).trans (h1.trans (h.stepHoldOf_nextIdx 1)).symm
  · have hone' : s.holdRem[1].toNat ≠ 1 := hhold ▸ hone
    obtain ⟨-, h0⟩ := msTick_waits h.inv (h.running 0) hone
    obtain ⟨-, h1⟩ := msTick_waits h.inv (h.running 1) hone'
    exact Nat.add_right_cancel ((h0.trans (congrArg BitVec.toNat hhold)).trans h1.symm)

theorem InStep.msTicks_holdRem (hhold : s.holdRem[0] = s.holdRem[1]) (n : Nat) :
    (Machine.msTicks n s).holdRem[0] = (Machine.msTicks n s).holdRem[1] := by
  induction n with
  | zero => exact hhold
  | succ n ih => exact msTicks_succ n s ▸ (h.msTicks n).msTick_holdRem ih

/-- R162: with equal holds both cursors make the same moves, so their distance stays. -/
theorem InStep.msTicks_distance (hhold : s.holdRem[0] = s.holdRem[1]) (n : Nat) :
    (Machine.msTicks n s).idx[1].toNat + s.idx[0].toNat ≡
      (Machine.msTicks n s).idx[0].toNat + s.idx[1].toNat [MOD s.curLen[0].toNat] := by
  induction n with
  | zero => exact congrArg (· % _) (Nat.add_comm _ _)
  | succ n ih =>
    have hn := h.msTicks n
    have h0 := msTick_idx_modEq hn.inv (hn.running 0)
    have h1 := msTick_idx_modEq hn.inv (hn.running 1)
    have hlen : (Machine.msTicks n s).curLen[(1 : CurNum).val] = s.curLen[0] := by simpa using h.len.symm
    have hhold' : (Machine.msTicks n s).holdRem[(1 : CurNum).val] = (Machine.msTicks n s).holdRem[(0 : CurNum).val] :=
      (h.msTicks_holdRem hhold n).symm
    have hlen' : (Machine.msTicks n s).curLen[(0 : CurNum).val] = s.curLen[0] := by simp
    rw [hlen, hhold'] at h1
    rw [hlen'] at h0
    rw [msTicks_succ]
    generalize (if (Machine.msTicks n s).holdRem[(0 : CurNum).val].toNat = 1 then 1 else 0) = d at h0 h1
    calc (Machine.msTick (Machine.msTicks n s)).idx[1].toNat + s.idx[0].toNat
        ≡ (Machine.msTicks n s).idx[1].toNat + d + s.idx[0].toNat [MOD s.curLen[0].toNat] := h1.add_right _
      _ = (Machine.msTicks n s).idx[1].toNat + s.idx[0].toNat + d := Nat.add_right_comm _ _ _
      _ ≡ (Machine.msTicks n s).idx[0].toNat + s.idx[1].toNat + d [MOD s.curLen[0].toNat] := ih.add_right _
      _ = (Machine.msTicks n s).idx[0].toNat + d + s.idx[1].toNat := Nat.add_right_comm _ _ _
      _ ≡ (Machine.msTick (Machine.msTicks n s)).idx[0].toNat + s.idx[1].toNat [MOD s.curLen[0].toNat] :=
        (h0.add_right _).symm

end

/-- Settles O41: from one advance to the next the ticks are the step's hold, and two cursors with the same holds move
together. -/
theorem sequenceRunsCircularly : Obligations.SequenceRunsCircularly := by
  refine ⟨fun s k hinv hk j n => msTicks_between_advances hinv hk, fun s hinv h0 h1 hbase hlen hhold huniform n => ?_⟩
  have hstep : InStep s := ⟨hinv, Fin.forall_fin_two.2 ⟨h0, h1⟩, hbase, hlen, huniform⟩
  exact hstep.msTicks_distance hhold n

end Sys2Proof.Machine
end
